-- ==== Sys2Proof/Word.lean ====
section
/-! DEFINITION. The two value shapes the spec treats as bits: the step code and a line level.
Every other value is a natural number (spec R13: "Numbers are naturals unless a width is stated"). -/

namespace Sys2Proof

/-- A step code: the 4-bit field `op[3:0]` of format `S` (R72). -/
abbrev StepCode := BitVec 4

/-- The level of a digital line, `true` = high = 1 (R29, R30, R73). -/
abbrev Level := Bool

end Sys2Proof
end

