-- ==== Sys2Proof/Config.lean ====
section
/-! DEFINITION. The configuration record of R8, the names of the clauses of R11, and the values no rule
of the spec fixes: opaque constants with no body, which no proof can see through. -/

namespace Sys2Proof

/-- The configuration record, the fields of R8 in the spec's order. -/
structure Config where
  /-- `PIXELS`: Clock pulses in one scan. -/
  pixels : Nat
  /-- `CUE` (`CLOCKS_UNTIL_EXPOSURE`): pixel index at which the exposure start is marked. -/
  cue : Nat
  /-- `WIN_N`: start offset of the sampling window. -/
  winN : Nat
  /-- `WIN_M`: stride of the sampling window. -/
  winM : Nat
  /-- `THRESHOLD`: the renderer's comparison constant. -/
  threshold : Nat
  /-- `EXPOSURE_US`: exposure duration in microseconds. -/
  exposureUs : Nat
  /-- `LINE_WIDTH`: frame-buffer capacity in samples. -/
  lineWidth : Nat
  /-- `ADC_MAX`: the largest reading the analog contract promises. -/
  adcMax : Nat
  /-- `TICKS_PER_US`: ticks per microsecond; OPEN (D6). -/
  ticksPerUs : Nat
  /-- `TICK_MOD`: the tick counter counts modulo this; OPEN (D7). -/
  tickMod : Nat
  /-- `SAMPLE_W`: width in bits of a frame-buffer entry (D5). -/
  sampleW : Nat
deriving DecidableEq, Repr

/-- The clauses of `ConfigValid` (R11). -/
inductive Clause where
  | v1 | v2 | v3 | v4 | v5 | v6 | v7
deriving DecidableEq, Repr

/-! ### The platform's two open constants (R9, D6, D7; log entry 2)

`TICKS_PER_US` is any number from 1 up and `TICK_MOD` any number above `EXP_TICKS`; the two constants
below, free over all naturals, reach exactly those pairs. -/

/-- One less than the platform's `TICKS_PER_US` (D6: OPEN). -/
opaque Config.platformTicksPerUsPred : Nat

/-- How far the platform's `TICK_MOD` lies above `EXP_TICKS + 1` (D7: OPEN). -/
opaque Config.platformTickModSlack : Nat

/-! ### Free values (R35, R24, R175, R178)

Each is applied to a counter held in `State`, so that every use may be a different value. -/

/-- The unwrapped time of the tick counter at power-on (R175: "The counter's value at the engine's reset
is arbitrary"; log entry 9). -/
opaque Config.freePowerOnTime : Nat

/-- How far the unwrapped time has advanced at a tick read for which no answer is pending (R175; log entry 8). -/
opaque Config.freeTickAdvance (draw : Nat) : Nat

/-- The answer of an ADC read for which no answer is pending (R178; log entry 10). -/
opaque Config.freeAdcAnswer (draw : Nat) : Nat

/-- The value a reset leaves in `EXPSTART`, before reduction to its range (R24, R195; log entry 6). -/
opaque Config.freeExpStart (draw : Nat) : Nat

/-- The value a reset leaves in `FB[k]`, before reduction to its range (R35, R195; log entry 6). -/
opaque Config.freeFbEntry (draw k : Nat) : Nat

end Sys2Proof
end

