-- ==== Sys2Proof/Syntax.lean ====
section
/-! DEFINITION. The nine operations of the opcode table (R71), one constructor each; no operation has an
explicit operand (R74). -/

namespace Sys2Proof

/-- One sequencer operation (R6, R71), in the order of the step codes. -/
inductive Instr where
  /-- `STRB_HI` (R91): raise Strobe, begin a frame. -/
  | strbHi
  /-- `CLK_HI` (R92): raise Clock. -/
  | clkHi
  /-- `STRB_LO` (R93): lower Strobe on the first pulse. -/
  | strbLo
  /-- `XMARK` (R111): mark the exposure start. -/
  | xmark
  /-- `SAMP` (R131): filter, trigger the converter, collect. -/
  | samp
  /-- `CLK_LO` (R94): lower Clock, count the pulse, close the loop. -/
  | clkLo
  /-- `REND` (R151): hand the frame buffer to the renderer. -/
  | rend
  /-- `XWAIT` (R113): the exposure wait. -/
  | xwait
  /-- `FLIP` (R115): change phase, close the frame. -/
  | flip
deriving DecidableEq, Repr

/-- The mnemonic of R71, as the opcode table spells it. -/
def Instr.mnemonic : Instr → String
  | .strbHi => "STRB_HI"
  | .clkHi => "CLK_HI"
  | .strbLo => "STRB_LO"
  | .xmark => "XMARK"
  | .samp => "SAMP"
  | .clkLo => "CLK_LO"
  | .rend => "REND"
  | .xwait => "XWAIT"
  | .flip => "FLIP"

end Sys2Proof
end

