-- ==== Sys2Proof/Machine/Constants.lean ====
section
/-! DEFINITION. The hardware's instance of the configuration, the derived constants of R10, the tick
difference of R112 and the validity clauses of R11: everything that depends on `Config` alone. -/

namespace Sys2Proof

/-- The hardware's instance (R9). `SAMPLE_W = 12` is the spec's decision D5; the two tick constants stay
open (log entries 2 and 3). -/
def Config.hw : Config where
  pixels := 128
  cue := 18
  winN := 34
  winM := 3
  threshold := 2500
  exposureUs := 300000
  lineWidth := 21
  adcMax := 4094
  ticksPerUs := Config.platformTicksPerUsPred + 1
  tickMod := 300000 * (Config.platformTicksPerUsPred + 1) + 1 + Config.platformTickModSlack
  sampleW := 12

/-- `EXP_TICKS = EXPOSURE_US * TICKS_PER_US`, an exact product (R10, R119, R176). -/
def Config.expTicks (c : Config) : Nat := c.exposureUs * c.ticksPerUs

/-- `InWindow(j)` (R10, R131): both bounds inclusive. -/
def Config.inWindow (c : Config) (j : Nat) : Bool :=
  decide (c.winN ≤ j) && decide (j + c.winN ≤ c.pixels) && decide ((j - c.winN) % c.winM = 0)

/-- How many of the pixel indices `0 .. n-1` pass the window (the count used by R10 and R40). -/
def Config.sampledBelow (c : Config) (n : Nat) : Nat := (List.range n).countP c.inWindow

/-- `SAMPLE_COUNT` (R10). -/
def Config.sampleCount (c : Config) : Nat := c.sampledBelow c.pixels

/-- `tsub(a, b)`, the tick difference at the counter's own modulus (R112, D13). -/
def Config.tsub (c : Config) (a b : Nat) : Nat := (a + c.tickMod - b) % c.tickMod

/-- `ceil(log2(n))` for `n ≥ 1`. -/
def ceilLog2 (n : Nat) : Nat := if n ≤ 1 then 0 else (n - 1).log2 + 1

/-- `J_W` (R10). -/
def Config.jWidth (c : Config) : Nat := max 1 (ceilLog2 c.pixels)

/-- `WRIDX_W` (R10). -/
def Config.wrIdxWidth (c : Config) : Nat := ceilLog2 (c.lineWidth + 1)

/-- The width of `EXPSTART` and of the tick port (R24, R37). -/
def Config.tickWidth (c : Config) : Nat := ceilLog2 c.tickMod

/-- The clauses of `ConfigValid`, row by row of R11's table. -/
def Config.meets (c : Config) : Clause → Bool
  | .v1 => decide (1 ≤ c.pixels)
  | .v2 => decide (1 ≤ c.winM)
  | .v3 => decide (c.sampleCount ≤ c.lineWidth)
  | .v4 => decide (c.cue ≤ c.pixels - 1)
  | .v5 => decide (1 ≤ c.ticksPerUs) && decide (c.expTicks < c.tickMod) && decide (2 ≤ c.tickMod)
  | .v6 => decide (c.adcMax < 2 ^ c.sampleW)
  | .v7 => decide (1 ≤ c.lineWidth)

/-- The first clause of R11 that the configuration breaks, in the order V1 to V7; `none` when it is valid.
R166 names one clause in `InvalidConfig(clause)`; taking the first is log entry 23. -/
def Config.firstViolated (c : Config) : Option Clause :=
  [Clause.v1, .v2, .v3, .v4, .v5, .v6, .v7].find? fun clause => !c.meets clause

/-- A configuration is valid when it meets all seven clauses. -/
theorem Config.firstViolated_eq_none {c : Config} : c.firstViolated = none ↔ ∀ clause, c.meets clause = true := by
  constructor
  · intro h clause
    simp only [Config.firstViolated, List.find?_eq_none] at h
    simpa using h clause (by cases clause <;> simp)
  · intro h
    simp [Config.firstViolated, h]

/-- The hardware's instance satisfies V1 to V7 whatever the two open constants are (R11, last paragraph). -/
theorem Config.hw_valid : Config.hw.firstViolated = none := by
  have h5 : 1 ≤ Config.hw.ticksPerUs ∧ Config.hw.expTicks < Config.hw.tickMod ∧ 2 ≤ Config.hw.tickMod := by
    simp only [Config.hw, Config.expTicks]
    omega
  refine Config.firstViolated_eq_none.2 fun clause => ?_
  cases clause with
  | v5 =>
    simp only [Config.meets, Bool.and_eq_true, decide_eq_true_eq]
    exact ⟨⟨h5.1, h5.2.1⟩, h5.2.2⟩
  | v1 | v2 | v3 | v4 | v6 | v7 => decide

end Sys2Proof
end

