-- ==== Sys2Proof/WellFormed.lean ====
section
/-! DEFINITION. What is checked before a machine exists: the configuration (R11) and, vacuously, the
operations, which have no operand to check (R74, R78). -/

namespace Sys2Proof

/-- Every operation is well formed: one format, no operands, no prefixes (R74, R78). -/
def Instr.wellFormed : Instr → Bool
  | .strbHi | .clkHi | .strbLo | .xmark | .samp | .clkLo | .rend | .xwait | .flip => true

/-- `ConfigValid(Config)` (R11). -/
def Config.wellFormed (c : Config) : Bool := c.firstViolated.isNone

/-- A configuration together with the check of R11. A machine is built over one of these only, so that an
invalid configuration "prevents the machine from existing" (R166; log entry 1). -/
structure ValidConfig extends Config where
  valid : toConfig.firstViolated = none
deriving DecidableEq, Repr

/-- The hardware's instance (R9), valid for every value of its open constants. -/
def ValidConfig.hw : ValidConfig := ⟨Config.hw, Config.hw_valid⟩

end Sys2Proof
end

