-- ==== Sys2Proof/Decode.lean ====
section
/-! DEFINITION. Step codes and operations: the decoder, total and rejecting by name, and the encoder, each
written from the table of R71 and the patterns of R72. -/

namespace Sys2Proof

/-- Why a number is not an operation. -/
inductive Reject where
  /-- A code `9 .. 15` of `op`: reserved (R77). -/
  | reservedStep (code : StepCode)
  /-- A number that does not fit the one 4-bit field of format `S` (R72, R78). -/
  | notOneStep (word : Nat)
deriving DecidableEq, Repr

/-- The operation a step code stands for (R71, R72); codes 9 to 15 are reserved (R77). -/
def decode (op : StepCode) : Except Reject Instr :=
  match op.toNat with
  | 0 => .ok .strbHi
  | 1 => .ok .clkHi
  | 2 => .ok .strbLo
  | 3 => .ok .xmark
  | 4 => .ok .samp
  | 5 => .ok .clkLo
  | 6 => .ok .rend
  | 7 => .ok .xwait
  | 8 => .ok .flip
  | _ => .error (.reservedStep op)

/-- The decoder on any number, read as a step code with zeros above it (log entry 28). -/
def decodeWord (w : Nat) : Except Reject Instr :=
  if w < 16 then decode (BitVec.ofNat 4 w) else .error (.notOneStep w)

/-- The step code of an operation: the patterns of R72. -/
def encode : Instr → StepCode
  | .strbHi => 0b0000#4
  | .clkHi => 0b0001#4
  | .strbLo => 0b0010#4
  | .xmark => 0b0011#4
  | .samp => 0b0100#4
  | .clkLo => 0b0101#4
  | .rend => 0b0110#4
  | .xwait => 0b0111#4
  | .flip => 0b1000#4

/-- What the decoder reads from a row of the opcode table. A row's bits are numbered as the table numbers
them, bit 0 the least significant of `op`; every bit above the 4-bit field must be 0. -/
def decodeTableWord (_nbits w : Nat) : Option Instr := (decodeWord w).toOption

end Sys2Proof
end

