-- ==== Sys2Proof/Machine/State.lean ====
section
/-! DEFINITION. The state of the engine (R20) as plain data, with the model's own record beside it: the
configuration it was built with, its environment and the event trace. -/

namespace Sys2Proof.Machine

/-- `CameraState`, the state element `PHASE` (R28). -/
inductive Phase where
  /-- `AwaitingExposure`, bit value 0. -/
  | awaitingExposure
  /-- `Capturing`, bit value 1. -/
  | capturing
deriving DecidableEq, Repr

/-- What the engine does to its environment (R15). -/
inductive Event where
  | strobeSet (level : Level)
  | clockSet (level : Level)
  | tickRead (value : Nat)
  | adcRead (j value : Nat)
  | fbWrite (k value : Nat)
  | render (buf : List Nat)
deriving DecidableEq, Repr

/-- The engine's one memory, the frame buffer `FB` (R33, R54): entry `k` at position `k`, every entry of the
index space `0 .. LINE_WIDTH-1` present, so equal memories are equal lists (log entry 7). -/
abbrev Memory := List Nat

/-- What the agents outside the engine will answer (R21, R175, R178, R180). None of it is state of the engine;
it is data here so that the step is a function. An answer for which nothing is pending is a free value,
drawn from an opaque constant at the source's own draw counter. -/
structure Environment where
  /-- The levels of the `rst` input in the coming steps, the next step first; nothing listed means released
  (R180, R195; log entry 11). -/
  rst : List Bool
  /-- The tick counter's unwrapped time `T` at the last tick read (R39, R175; log entry 8). -/
  time : Nat
  /-- How far `T` advances up to each of the coming tick reads (R175). -/
  tickAdvances : List Nat
  /-- Tick reads answered by a free value so far. -/
  tickDraws : Nat
  /-- The answers of the coming ADC reads (R178; log entry 10). -/
  adcAnswers : List Nat
  /-- ADC reads answered by a free value so far. -/
  adcDraws : Nat
  /-- Resets so far, each of which draws new contents for `EXPSTART` and `FB` (R35, R195). -/
  resetDraws : Nat
  /-- `T0`, the unwrapped time of the last exposure mark (R114, R117); no operation reads it (log entry 17). -/
  markTime : Nat
deriving DecidableEq, Repr

/-- The machine. The first eight fields are the whole state the spec gives the engine (R20); the last three
are the model's own. -/
structure State where
  /-- `STEP`: the code of the operation the next step executes (R26, R72). -/
  stepCode : StepCode
  /-- `J`: the pixel index, range `0 .. PIXELS-1` (R22). -/
  j : Nat
  /-- `PHASE` (R28). -/
  phase : Phase
  /-- `STROBE`: the level of the Strobe output (R29). -/
  strobe : Level
  /-- `CLOCK`: the level of the Clock output (R30). -/
  clock : Level
  /-- `EXPSTART`: the exposure-start tick, range `0 .. TICK_MOD-1` (R24). -/
  expStart : Nat
  /-- `WRIDX`: the next frame-buffer entry to write, range `0 .. LINE_WIDTH` (R23). -/
  wrIdx : Nat
  /-- `FB`: the frame buffer (R33). -/
  fb : Memory
  /-- The event trace (R15), oldest event first; not hardware state (log entry 12). -/
  trace : List Event
  /-- The environment's answers (R21). -/
  env : Environment
  /-- The hard-wired constants (R7, R32; log entry 1). -/
  config : ValidConfig
deriving DecidableEq, Repr

/-- Why a step stops with a fault. Neither is behaviour of the hardware, which "raises no exception" (R165);
both are the model-level faults of R166. -/
inductive Fault where
  /-- Raised by `SAMP` when a sample is due and `WRIDX` is not below `LINE_WIDTH` (R131, R166). Safe: no valid
  configuration reaches it, and the spec gives the situation no value. -/
  | frameBufferOverflow
  /-- Raised by any step whose `STEP` holds a reserved code 9 to 15 (R77, R166). Safe: unreachable. -/
  | reservedStep (code : StepCode)
deriving DecidableEq, Repr

/-- Why no machine, or no meaning, exists. -/
inductive Refusal where
  /-- Raised by no arm: every operation has its meaning. -/
  | notModelled (mnemonic : String)
  /-- Raised by building a machine over an invalid configuration (R11, R166). Safe: the machine does not exist. -/
  | invalidConfig (clause : Clause)
deriving DecidableEq, Repr

/-- The reset state of R195 over a configuration and an environment. `EXPSTART` and every entry of `FB` are
free values in their ranges (R24, R35, D11; log entry 6); the pins are low by the spec's decision D10
(log entry 5). -/
def State.resetWith (c : ValidConfig) (e : Environment) : State where
  stepCode := encode .strbHi
  j := 0
  phase := .awaitingExposure
  strobe := false
  clock := false
  expStart := Config.freeExpStart e.resetDraws % c.tickMod
  wrIdx := 0
  fb := (List.range c.lineWidth).map fun k => Config.freeFbEntry e.resetDraws k % 2 ^ c.sampleW
  trace := []
  env := { e with resetDraws := e.resetDraws + 1 }
  config := c

/-- The environment at power-on: nothing pending, the reset input released, the tick counter at an arbitrary
time (R175, R180). DESIGN CHOICE for the model's own fields (log entries 8 to 11, 17). -/
def Environment.powerOn : Environment where
  rst := []
  time := Config.freePowerOnTime
  tickAdvances := []
  tickDraws := 0
  adcAnswers := []
  adcDraws := 0
  resetDraws := 0
  markTime := 0

/-- The hardware right after reset (R195), over the instance of R9. -/
def State.reset : State := State.resetWith .hw .powerOn

end Sys2Proof.Machine
end

