-- ==== Sys2Proof/Machine/Operands.lean ====
section
/-! DEFINITION. The implicit operands of R74 that come from outside the engine: the tick counter's answer
and the converter's answer. -/

namespace Sys2Proof.Machine

/-- How far the tick counter's unwrapped time has advanced when it is read now: the pending answer, or a
free value (R175; log entry 8). -/
def State.tickAdvance (s : State) : Nat :=
  match s.env.tickAdvances with
  | d :: _ => d
  | [] => Config.freeTickAdvance s.env.tickDraws

/-- The unwrapped time `T` at a tick read made now; it never lies before the last one (R175). -/
def State.tickTime (s : State) : Nat := s.env.time + s.tickAdvance

/-- The value `TickRead()` returns now: `T mod TICK_MOD` (R175). -/
def State.tickNow (s : State) : Nat := s.tickTime % s.config.tickMod

/-- The value `AdcRead()` returns now: the pending answer, or a free value (R178; log entry 10). -/
def State.adcAnswer (s : State) : Nat :=
  match s.env.adcAnswers with
  | v :: _ => v
  | [] => Config.freeAdcAnswer s.env.adcDraws

/-- The entry `SAMP` stores: the answer at the width of an entry (R131, R134). -/
def State.sample (s : State) : Nat := s.adcAnswer % 2 ^ s.config.sampleW

end Sys2Proof.Machine
end

