-- ==== Sys2Proof/Machine/Ops.lean ====
section
/-! DEFINITION. The named operations: the pseudocode primitives of R14 over the state, the frame buffer's
read and write, the reset of R195, and building a machine (R166). There is no trap to take and none to return
from (R165, R169, R170): the reset is the one entry the spec describes. -/

namespace Sys2Proof.Machine

/-! ### The frame buffer (R33, R51, R54) -/

/-- The canonical form: `LINE_WIDTH` entries, each below `2^SAMPLE_W` (R33, R54). -/
def Memory.wf (c : Config) (m : Memory) : Bool :=
  decide (m.length = c.lineWidth) && m.all fun v => decide (v < 2 ^ c.sampleW)

/-- Entry `k`; an index outside `0 .. LINE_WIDTH-1` does not exist (R54). -/
def Memory.read (m : Memory) (k : Nat) : Option Nat := m[k]?

/-- `FB[k] <- v` (R14). -/
def Memory.write (m : Memory) (k v : Nat) : Memory := m.set k v

/-! ### Trace, sequence and pins (R14, R15, R26) -/

/-- Append an event to the trace (R15). -/
def State.log (s : State) (e : Event) : State := { s with trace := s.trace ++ [e] }

/-- `STEP <- op` (R14). -/
def State.goTo (s : State) (i : Instr) : State := { s with stepCode := encode i }

/-- `SetStrobe(l)` (R14, R177): the level and the event, at once and unbuffered (R200). -/
def State.setStrobe (s : State) (l : Level) : State := State.log { s with strobe := l } (.strobeSet l)

/-- `SetClock(l)` (R14, R177). -/
def State.setClock (s : State) (l : Level) : State := State.log { s with clock := l } (.clockSet l)

/-! ### Environment reads and the handoff (R14) -/

/-- `TickRead()` (R14, R175): the counter has advanced to the answered time, and the read is recorded. -/
def State.tickRead (s : State) : State :=
  let read : Environment := { s.env with
    time := s.tickTime
    tickAdvances := s.env.tickAdvances.tail
    tickDraws := if s.env.tickAdvances.isEmpty then s.env.tickDraws + 1 else s.env.tickDraws }
  State.log { s with env := read } (.tickRead s.tickNow)

/-- `AdcRead()` (R14, R133, R178): trigger, conversion and capture in one step. -/
def State.adcRead (s : State) : State :=
  let read : Environment := { s.env with
    adcAnswers := s.env.adcAnswers.tail
    adcDraws := if s.env.adcAnswers.isEmpty then s.env.adcDraws + 1 else s.env.adcDraws }
  State.log { s with env := read } (.adcRead s.j s.adcAnswer)

/-- `FB[WRIDX] <- v` with the write index advanced by one (R131, R136). -/
def State.collect (s : State) (v : Nat) : State :=
  State.log { s with fb := s.fb.write s.wrIdx v, wrIdx := s.wrIdx + 1 } (.fbWrite s.wrIdx v)

/-- `EmitRender(FB)` (R14, R151): a by-value copy of all entries, in index order (R50). -/
def State.emitRender (s : State) : State := s.log (.render s.fb)

/-! ### Fetch (R26, R60) -/

/-- The operation `STEP` selects. There is no memory to fetch from: the sequence is hard-wired (R60). -/
def State.fetch (s : State) : Except Reject Instr := decode s.stepCode

/-! ### Reset (R168, R195) -/

/-- Whether `rst` is asserted for this step (R38, R180). -/
def State.rstAsserted (s : State) : Bool := s.env.rst.head? == some true

/-- The same state with this step's level of `rst` taken off the pending levels. -/
def State.rstTaken (s : State) : State := { s with env := { s.env with rst := s.env.rst.tail } }

/-- The reset of R195, from any state: the engine's state is the reset state, the constants stay, and the
environment is not reset with the engine. -/
def State.applyReset (s : State) : State := State.resetWith s.config s.env

/-- `rst` released for the coming step, if it was pending as asserted. -/
def State.rstReleased (s : State) : State :=
  if s.rstAsserted then { s with env := { s.env with rst := false :: s.env.rst.tail } } else s

/-- Building a machine (R11, R166): an invalid configuration is refused with the clause it breaks. -/
def instantiate (c : Config) (e : Environment) : Host.Outcome State Fault Refusal :=
  match h : c.firstViolated with
  | none => .next (State.resetWith ⟨c, h⟩ e)
  | some clause => .refused (.invalidConfig clause)

end Sys2Proof.Machine
end

