-- ==== Sys2Proof/Machine/Flags.lean ====
section
/-! DEFINITION. The flags `PHASE`, `STROBE`, `CLOCK` (R28 to R30) as bits, and the comparisons the operations
make. No comparison is stored (R31): each is used inside its own operation. -/

namespace Sys2Proof.Machine

/-- The bit value of `PHASE` (R28, R73). -/
def Phase.bit : Phase → BitVec 1
  | .awaitingExposure => 0#1
  | .capturing => 1#1

/-- The bit value of a line level (R73). -/
def levelBit (l : Level) : BitVec 1 := BitVec.ofBool l

/-- The other phase (R115). -/
def Phase.flip : Phase → Phase
  | .awaitingExposure => .capturing
  | .capturing => .awaitingExposure

/-- `J = 0` (R93). -/
def State.firstPulse (s : State) : Bool := s.j == 0

/-- `J < PIXELS-1` (R94). -/
def State.pulsesLeft (s : State) : Bool := decide (s.j < s.config.pixels - 1)

/-- `PHASE = AwaitingExposure and J = CUE` (R111). -/
def State.markDue (s : State) : Bool := s.phase == .awaitingExposure && s.j == s.config.cue

/-- `PHASE = Capturing and InWindow(J)` (R131). -/
def State.sampleDue (s : State) : Bool := s.phase == .capturing && s.config.inWindow s.j

/-- The frame buffer is full. R131 tests `WRIDX = LINE_WIDTH`; an index above, which the legal range of R23
excludes, is no more an entry (R51), so it is treated alike (log entry 14). -/
def State.bufferFull (s : State) : Bool := decide (s.config.lineWidth ≤ s.wrIdx)

/-- `tsub(now, EXPSTART) >= EXP_TICKS` for the tick read now (R113). -/
def State.waitOver (s : State) : Bool := decide (s.config.expTicks ≤ s.config.tsub s.tickNow s.expStart)

end Sys2Proof.Machine
end

