-- ==== Sys2Proof/Machine/Exposure.lean ====
section
/-! DEFINITION. The exposure timer and the two-phase state machine: `XMARK`, `XWAIT`, `FLIP`
(41_exposure_timer.md). -/

namespace Sys2Proof.Machine

/-- The exposure mark: `EXPSTART <- TickRead()`, with the unwrapped time of the same read kept beside it
(R111, R114). -/
def State.mark (s : State) : State :=
  { s.tickRead with expStart := s.tickNow, env := { s.tickRead.env with markTime := s.tickTime } }

/-- `XMARK` (R111): the counter is read only when the mark is due. -/
def execXmark (s : State) : Host.Outcome State Fault Refusal :=
  .next ((if s.markDue then s.mark else s).goTo .samp)

/-- `XWAIT` (R113): one fresh tick read per execution, and the wait goes on until the difference is there. -/
def execXwait (s : State) : Host.Outcome State Fault Refusal :=
  .next (s.tickRead.goTo (if s.waitOver then .flip else .xwait))

/-- `FLIP` (R115). -/
def execFlip (s : State) : Host.Outcome State Fault Refusal :=
  .next (State.goTo { s with phase := s.phase.flip } .strbHi)

end Sys2Proof.Machine
end

