-- ==== Sys2Proof/Machine/Pulse.lean ====
section
/-! DEFINITION. The Strobe and Clock sequencer: `STRB_HI`, `CLK_HI`, `STRB_LO`, `CLK_LO`
(40_pulse_protocol.md). -/

namespace Sys2Proof.Machine

/-- `STRB_HI` (R91). -/
def execStrbHi (s : State) : Host.Outcome State Fault Refusal :=
  .next (State.goTo { s.setStrobe true with j := 0, wrIdx := 0 } .clkHi)

/-- `CLK_HI` (R92). -/
def execClkHi (s : State) : Host.Outcome State Fault Refusal :=
  .next ((s.setClock true).goTo .strbLo)

/-- `STRB_LO` (R93): the pin is not rewritten when `J` is not 0. -/
def execStrbLo (s : State) : Host.Outcome State Fault Refusal :=
  .next ((if s.firstPulse then s.setStrobe false else s).goTo .xmark)

/-- `CLK_LO` (R94). -/
def execClkLo (s : State) : Host.Outcome State Fault Refusal :=
  .next (if s.pulsesLeft then State.goTo { s.setClock false with j := s.j + 1 } .clkHi
    else (s.setClock false).goTo (if s.phase = .awaitingExposure then .rend else .flip))

end Sys2Proof.Machine
end

