-- ==== Sys2Proof/Machine/Render.lean ====
section
/-! DEFINITION. The render handoff, `REND`, and the contract of the renderer that receives it
(43_render_handoff.md). -/

namespace Sys2Proof.Machine

/-- `REND` (R151). -/
def execRend (s : State) : Host.Outcome State Fault Refusal :=
  .next (s.emitRender.goTo .xwait)

/-! ### The renderer, a boundary collaborator (R150, R153 to R155) -/

/-- One symbol of the rendered line (R153). -/
inductive Glyph where
  | low
  | high
deriving DecidableEq, Repr

/-- `Glyph(v)`: `high` when the value exceeds the threshold, strictly (R153; log entry 19). -/
def glyphOf (threshold v : Nat) : Glyph := if threshold < v then .high else .low

/-- `RenderLine(buf)` (R153): one glyph per entry, in index order. -/
def renderLine (threshold : Nat) (buf : List Nat) : List Glyph := buf.map (glyphOf threshold)

/-- The open parameters `GLYPH_HIGH` and `GLYPH_LOW`, two distinct characters (R154, D23). -/
structure GlyphSet where
  high : Char
  low : Char
  distinct : (high == low) = false
deriving DecidableEq, Repr

/-- What the display transport accepts (R154). -/
inductive DisplayCommand where
  | clear
  | writeGlyph (c : Char)
deriving DecidableEq, Repr

/-- The character shown for a glyph (R154). -/
def GlyphSet.char (g : GlyphSet) : Glyph → Char
  | .low => g.low
  | .high => g.high

/-- What one render sends to the display: clear it, then write the line glyph by glyph (R154). -/
def displayLine (g : GlyphSet) (threshold : Nat) (buf : List Nat) : List DisplayCommand :=
  .clear :: (renderLine threshold buf).map fun x => .writeGlyph (g.char x)

/-- What one event of the engine makes the renderer send: only a render reaches it (R150, R179). -/
def displayOf (g : GlyphSet) (threshold : Nat) : Event → List DisplayCommand
  | .render buf => displayLine g threshold buf
  | .strobeSet _ | .clockSet _ | .tickRead _ | .adcRead _ _ | .fbWrite _ _ => []

/-- Everything the system has sent to the display so far: the engine composed with the renderer (R150). -/
def State.display (s : State) (g : GlyphSet) : List DisplayCommand :=
  s.trace.flatMap (displayOf g s.config.threshold)

end Sys2Proof.Machine
end

