-- ==== Sys2Proof/Machine/Sampling.lean ====
section
/-! DEFINITION. The sampling window, the converter's trigger and the sample collector: `SAMP`
(42_sampling.md). -/

namespace Sys2Proof.Machine

/-- The index `SAMP` stores to, where it stores (R131, R136). -/
def State.storeIndex (s : State) : Option Nat := if s.sampleDue then some s.wrIdx else none

/-- `SAMP` (R131). The overflow check comes before the converter read, so a faulting `SAMP` reads nothing
(R168). -/
def execSamp (s : State) : Host.Outcome State Fault Refusal :=
  if s.sampleDue then
    if s.bufferFull then .fault .frameBufferOverflow
    else .next ((s.adcRead.collect s.sample).goTo .clkLo)
  else .next (s.goTo .clkLo)

end Sys2Proof.Machine
end

