-- ==== Sys2Proof/Machine/Dispatch.lean ====
section
/-! DEFINITION. The meaning of each operation, one arm per constructor. -/

namespace Sys2Proof.Machine

def exec (i : Instr) (s : State) : Host.Outcome State Fault Refusal :=
  match i with
  | .strbHi => Sys2Proof.Machine.execStrbHi s
  | .clkHi => Sys2Proof.Machine.execClkHi s
  | .strbLo => Sys2Proof.Machine.execStrbLo s
  | .xmark => Sys2Proof.Machine.execXmark s
  | .samp => Sys2Proof.Machine.execSamp s
  | .clkLo => Sys2Proof.Machine.execClkLo s
  | .rend => Sys2Proof.Machine.execRend s
  | .xwait => Sys2Proof.Machine.execXwait s
  | .flip => Sys2Proof.Machine.execFlip s

end Sys2Proof.Machine
end

