-- ==== Sys2Proof/Machine/Step.lean ====
section
/-! DEFINITION. One step (R16): the reset wins over the operation (R168); otherwise the operation `STEP`
selects is executed, and a reserved code is the model's fault (R77, R166). -/

namespace Sys2Proof.Machine

/-- The step of a state whose `rst` level for this step is already taken and low. -/
def stepReleased (s : State) : Host.Outcome State Fault Refusal :=
  match s.fetch with
  | .ok i => exec i s
  | .error _ => .fault (.reservedStep s.stepCode)

/-- One step of the machine (R16, R168, R195). A state whose step faults is the fault state: it stays as it
was before the step (R169), and only a reset leaves it (R170). DESIGN CHOICE (log entry 15): a faulting step does
not use up its level of `rst`, since `.fault` carries no state; a later reset is a fault state with `rst` asserted. -/
def step (s : State) : Host.Outcome State Fault Refusal :=
  if s.rstAsserted then .next s.rstTaken.applyReset else stepReleased s.rstTaken

/-- The state with the given word as its step code, so that the next step runs it: `STEP` is where the
sequencer's next operation is selected (R26, R72), and `rst` is low for that step (log entry 16). -/
def State.withFetchWord (s : State) (_nbits w : Nat) : State :=
  { s.rstReleased with stepCode := BitVec.ofNat 4 w }

end Sys2Proof.Machine
end

