-- ==== Sys2Proof/Machine/Listing.lean ====
section
/-! DEFINITION. Runs of steps, and the listing of a run as R79 writes it. -/

namespace Sys2Proof.Machine

/-- `n` steps, stopping at the first fault or refusal. -/
def run : Nat → State → Host.Outcome State Fault Refusal
  | 0, s => .next s
  | n + 1, s =>
    match step s with
    | .next t => run n t
    | .fault r => .fault r
    | .refused r => .refused r

/-- How many frames have begun since reset: one Strobe rise each (R91, R95). -/
def State.framesBegun (s : State) : Nat := s.trace.count (.strobeSet true)

/-- One line of a listing: `<frame>.<j> <MNEMONIC> ; <effect>` (R79). -/
structure ListingLine where
  /-- Frames are counted from 0 at reset. -/
  frame : Nat
  /-- `J` during the step; none for `STRB_HI`, where R79 writes `-`. -/
  pulse : Option Nat
  op : Instr
  /-- The events the step appends. -/
  effect : List Event
deriving DecidableEq, Repr

/-- The line of the operation `i` that takes `s` to `t` (R79). -/
def listingLine (i : Instr) (s t : State) : ListingLine where
  frame := if i = .strbHi then s.framesBegun else s.framesBegun - 1
  pulse := if i = .strbHi then none else some s.j
  op := i
  effect := t.trace.drop s.trace.length

/-- The listing of `n` steps; a reset is no operation and has no line (R168). -/
def listing : Nat → State → List ListingLine
  | 0, _ => []
  | n + 1, s =>
    match step s with
    | .next t =>
      if s.rstAsserted then listing n t
      else match s.fetch with
        | .ok i => listingLine i s t :: listing n t
        | .error _ => []
    | .fault _ => []
    | .refused _ => []

/-- The operations executed in `n` steps, in order. -/
def opsRun (n : Nat) (s : State) : List Instr := (listing n s).map (·.op)

end Sys2Proof.Machine
end

