-- ==== Sys2Proof/Machine/Ports.lean ====
section
/-! DEFINITION. The ports of R37 and R38 as functions of the state, and the registers at their bit widths
(R73), for a reader who wants signals; the steps work with the primitives of R14 and do not use them.

DESIGN CHOICE (log entry 30): a port is a function of the state without `rst`. In a step that an asserted `rst`
replaces no operation is executed (R168) and the spec gives `adc_trigger`, `render_valid` and the sampling of `tick`
no level; here they show what the operation in `STEP` would make them. -/

namespace Sys2Proof.Machine

/-- Output `strobe` (R29, R38). -/
def State.strobePort (s : State) : BitVec 1 := levelBit s.strobe

/-- Output `clock` (R30, R38). -/
def State.clockPort (s : State) : BitVec 1 := levelBit s.clock

/-- Output `adc_trigger` (R133): asserted for the `SAMP` step exactly when its condition holds and the
overflow check does not stop it. It does not look at `rst`: DESIGN CHOICE, log entry 30. -/
def State.adcTrigger (s : State) : Bool :=
  s.stepCode == encode .samp && s.sampleDue && !s.bufferFull

/-- Input `adc_data` at its width (R38): the answer the environment gives a trigger now, also where none is asserted
(DESIGN CHOICE, log entry 30). -/
def State.adcData (s : State) : BitVec s.config.sampleW := BitVec.ofNat _ s.adcAnswer

/-- Whether this step samples the input `tick` (R38): `XMARK` when its condition holds, and every `XWAIT`. It does
not look at `rst`: DESIGN CHOICE, log entry 30. -/
def State.tickSampled (s : State) : Bool :=
  (s.stepCode == encode .xmark && s.markDue) || s.stepCode == encode .xwait

/-- Input `tick` at its width (R38): the value a read made now would take, also in a step that makes none (DESIGN
CHOICE, log entry 30). -/
def State.tickPort (s : State) : BitVec s.config.tickWidth := BitVec.ofNat _ s.tickNow

/-- Output `render_valid` (R38): asserted for the `REND` step. It does not look at `rst`: DESIGN CHOICE, log
entry 30. -/
def State.renderValid (s : State) : Bool := s.stepCode == encode .rend

/-- Entries side by side, entry 0 lowest, each `w` bits wide (R50, D21). -/
def packEntries (w : Nat) : List Nat → Nat
  | [] => 0
  | v :: vs => v % 2 ^ w + 2 ^ w * packEntries w vs

/-- Output `render_data` (R38, R50): entry `k` in bits `[(k+1)*SAMPLE_W-1 : k*SAMPLE_W]`. Outside the `REND` step,
where the spec gives it no value, it shows `FB` too: DESIGN CHOICE, log entry 30. -/
def State.renderData (s : State) : BitVec (s.config.lineWidth * s.config.sampleW) :=
  BitVec.ofNat _ (packEntries s.config.sampleW s.fb)

/-! ### Registers in plain unsigned binary (R73) -/

/-- `J` at `J_W` bits. -/
def State.jBits (s : State) : BitVec s.config.jWidth := BitVec.ofNat _ s.j

/-- `WRIDX` at `WRIDX_W` bits. -/
def State.wrIdxBits (s : State) : BitVec s.config.wrIdxWidth := BitVec.ofNat _ s.wrIdx

/-- `EXPSTART` at `ceil(log2(TICK_MOD))` bits. -/
def State.expStartBits (s : State) : BitVec s.config.tickWidth := BitVec.ofNat _ s.expStart

/-- `FB[k]` at `SAMPLE_W` bits. -/
def State.fbBits (s : State) (k : Nat) : Option (BitVec s.config.sampleW) :=
  (s.fb.read k).map fun v => BitVec.ofNat _ v

end Sys2Proof.Machine
end

