-- ==== Sys2Proof/Machine/Sequence.lean ====
section
/-! DEFINITION. The fixed sequence as the spec writes it down: the successor table of R75 and the macros of
R79. They are written from those rules alone, apart from the meanings, so that the two can be compared. -/

namespace Sys2Proof.Machine

/-- The next `STEP` of R75's table after executing `i` in the state `s`. -/
def State.successor (s : State) : Instr → Instr
  | .strbHi => .clkHi
  | .clkHi => .strbLo
  | .strbLo => .xmark
  | .xmark => .samp
  | .samp => .clkLo
  | .clkLo =>
    if s.j < s.config.pixels - 1 then .clkHi
    else match s.phase with
      | .awaitingExposure => .rend
      | .capturing => .flip
  | .rend => .xwait
  | .xwait => if s.config.expTicks ≤ s.config.tsub s.tickNow s.expStart then .flip else .xwait
  | .flip => .strbHi

/-- Macro `PULSE(j)` (R79). -/
def pulseOps : List Instr := [.clkHi, .strbLo, .xmark, .samp, .clkLo]

/-- Macro `SCAN` (R79). -/
def scanOps (pixels : Nat) : List Instr := .strbHi :: (List.replicate pixels pulseOps).flatten

/-- Macro `TAIL_AE(w)` (R79). -/
def tailAeOps (w : Nat) : List Instr := .rend :: (List.replicate w .xwait ++ [.flip])

/-- Macro `TAIL_CAP` (R79). -/
def tailCapOps : List Instr := [.flip]

/-- Macro `FRAME_AE(w)` (R79). -/
def frameAeOps (pixels w : Nat) : List Instr := scanOps pixels ++ tailAeOps w

/-- Macro `FRAME_CAP` (R79). -/
def frameCapOps (pixels : Nat) : List Instr := scanOps pixels ++ tailCapOps

/-- Macro `CYCLE(w)` (R79). -/
def cycleOps (pixels w : Nat) : List Instr := frameAeOps pixels w ++ frameCapOps pixels

end Sys2Proof.Machine
end

