-- ==== Sys2Proof/Safety.lean ====
section
/-! DEFINITION. What a safe run of the engine is, in the terms the statements use: the invariants of R40 and
of the properties the rules derive from it, the parts of the event trace they speak of, and the named
premises of R208. -/

namespace Sys2Proof.Machine

/-- `STEP` holds the code of `i`. -/
abbrev State.isAt (s : State) (i : Instr) : Prop := s.stepCode = encode i

/-! ### Named premises (R208) -/

/-- `FromReset`: the reset state of R195 over some configuration and environment. -/
def State.fromReset (s : State) : Prop := ∃ c e, s = State.resetWith c e

/-- `NoResetDuring`, of the coming `n` steps: none of them is a reset. Levels listed for later steps may be asserted;
a run across them is split there (`run_add`, `run_at_reset`). -/
def State.noResetDuring (s : State) (n : Nat) : Bool := (s.env.rst.take n).all fun level => !level

/-- `NoResetDuring` of a run of any length: no pending level of `rst` is asserted. -/
def State.noResetPending (s : State) : Bool := s.env.rst.all fun level => !level

/-- `NoFault`: no run of steps from here ends in a model-level fault (R166). -/
def State.noFault (s : State) : Prop := ∀ n r, run n s ≠ .fault r

/-! The other four premises are about everything the environment will answer: the pending answers and, after them,
the free ones. `TickMonotone` holds of every state by the form of `Environment` (log entry 8). -/

/-- The `k`-th coming answer, from 0: pending while the list lasts, then free at the draw counter (log entries 8,
10). -/
def answerAt (pending : List Nat) (free : Nat → Nat) (draws k : Nat) : Nat :=
  match pending[k]? with
  | some v => v
  | none => free (draws + (k - pending.length))

/-- How far the unwrapped time advances up to the `k`-th coming tick read. -/
def Environment.tickAdvanceAt (e : Environment) (k : Nat) : Nat :=
  answerAt e.tickAdvances Config.freeTickAdvance e.tickDraws k

/-- The unwrapped time `T` of the `k`-th coming tick read (R175). In a wait that goes on these are the reads of the
successive executions of `XWAIT`. -/
def Environment.tickTimeAt (e : Environment) : Nat → Nat
  | 0 => e.time + e.tickAdvanceAt 0
  | k + 1 => e.tickTimeAt k + e.tickAdvanceAt (k + 1)

/-- The `k`-th coming answer of the converter (R178). -/
def Environment.adcAnswerAt (e : Environment) (k : Nat) : Nat :=
  answerAt e.adcAnswers Config.freeAdcAnswer e.adcDraws k

/-- `TickMonotone`, of the unwrapped times of successive reads (R175, R208). -/
def TickMonotone (times : Nat → Nat) : Prop := ∀ k, times k ≤ times (k + 1)

/-- `TickProgress`: the unwrapped time read is unbounded (R114). -/
def TickProgress (times : Nat → Nat) : Prop := ∀ bound, ∃ k, bound ≤ times k

/-- `WaitSampled`: some read falls in the window of the mark taken at the unwrapped time `t0` (R114). -/
def WaitSampled (c : Config) (t0 : Nat) (times : Nat → Nat) : Prop :=
  ∃ k, c.expTicks ≤ (times k - t0) % c.tickMod

/-- `TickMonotone`, of the coming tick reads and the last one. -/
def State.tickMonotone (s : State) : Prop := s.env.time ≤ s.env.tickTimeAt 0 ∧ TickMonotone s.env.tickTimeAt

/-- `TickProgress`, of the coming tick reads. -/
def State.tickProgress (s : State) : Prop := TickProgress s.env.tickTimeAt

/-- `WaitSampled`, of the coming tick reads and the last mark. -/
def State.waitSampled (s : State) : Prop := WaitSampled s.config.toConfig s.env.markTime s.env.tickTimeAt

/-- The part of `AdcInRange` that a run of `n` converter reads needs. -/
def State.adcInRangeFor (s : State) (n : Nat) : Prop := ∀ k, k < n → s.env.adcAnswerAt k ≤ s.config.adcMax

/-- `AdcInRange`: every coming answer of the converter, pending or free, is at most `ADC_MAX` (R178, R208). -/
def State.adcInRange (s : State) : Prop := ∀ n, s.adcInRangeFor n

/-! ### The trace of the current frame (R15, R16) -/

/-- The events since the last Strobe rise, that rise included: the current frame's part of the trace, or the
last frame's where the next has not begun. -/
def currentFrame (trace : List Event) : List Event :=
  trace.foldl (fun acc e => if e = .strobeSet true then [e] else acc ++ [e]) []

/-- `StrobeSet` and `ClockSet` (R95). -/
def Event.isPin : Event → Bool
  | .strobeSet _ | .clockSet _ => true
  | .tickRead _ | .adcRead _ _ | .fbWrite _ _ | .render _ => false

/-- `AdcRead` and `FbWrite` (R135). -/
def Event.isSampling : Event → Bool
  | .adcRead _ _ | .fbWrite _ _ => true
  | .strobeSet _ | .clockSet _ | .tickRead _ | .render _ => false

/-- `Render` (R152). -/
def Event.isRender : Event → Bool
  | .render _ => true
  | .strobeSet _ | .clockSet _ | .tickRead _ | .adcRead _ _ | .fbWrite _ _ => false

/-- An answer of the environment: `TickRead` or `AdcRead` (R168). -/
def Event.isEnvRead : Event → Bool
  | .tickRead _ | .adcRead _ _ => true
  | .strobeSet _ | .clockSet _ | .fbWrite _ _ | .render _ => false

/-- The values of the tick reads, in order. -/
def tickValues (evs : List Event) : List Nat :=
  evs.filterMap fun
    | .tickRead v => some v
    | .strobeSet _ | .clockSet _ | .adcRead _ _ | .fbWrite _ _ | .render _ => none

/-- The pin events of the current frame. -/
def State.framePins (s : State) : List Event := (currentFrame s.trace).filter Event.isPin

/-- The sampling events of the current frame. -/
def State.frameSampling (s : State) : List Event := (currentFrame s.trace).filter Event.isSampling

/-- The tick values read in the current frame. -/
def State.frameTicks (s : State) : List Nat := tickValues (currentFrame s.trace)

/-- How many renders have been sent since reset. -/
def State.rendersSent (s : State) : Nat := s.trace.countP Event.isRender

/-! ### Where a frame stands (R40, R96) -/

/-- `done` of R40 at the operation `i` with `J = j`: how many pixel indices of the current frame have had their
`SAMP`; all of them where the frame is over and the next has not begun. -/
def pixelsDoneAt (pixels j : Nat) : Instr → Nat
  | .strbHi => pixels
  | .clkHi | .strbLo | .xmark | .samp => j
  | .clkLo | .rend | .xwait | .flip => j + 1

/-- `done` of R40 where the frame stands. -/
def State.pixelsDone (s : State) : Nat :=
  match s.fetch with
  | .ok i => pixelsDoneAt s.config.pixels s.j i
  | .error _ => 0

/-- Whether the current frame is a Capturing frame; at `STRB_HI`, whether the frame just over was one. -/
def State.inCapture (s : State) : Bool :=
  if s.isAt .strbHi then s.phase == .awaitingExposure && !s.trace.isEmpty
  else s.phase == .capturing

/-! ### Invariants -/

/-- R40, with R22 to R24, R29, R30 and R77: what every reachable state satisfies. -/
structure State.Sequenced (s : State) : Prop where
  code_legal : s.stepCode.toNat ≤ 8
  j_range : s.j ≤ s.config.pixels - 1
  wrIdx_range : s.wrIdx ≤ s.config.sampleCount
  wrIdx_counts : s.inCapture = true → s.wrIdx = s.config.sampledBelow s.pixelsDone
  wrIdx_idle : s.inCapture = false → s.wrIdx = 0
  clock_high : s.clock = true ↔ s.isAt .strbLo ∨ s.isAt .xmark ∨ s.isAt .samp ∨ s.isAt .clkLo
  strobe_high : s.strobe = true ↔ (s.isAt .clkHi ∧ s.j = 0) ∨ (s.isAt .strbLo ∧ s.j = 0)
  tail_pixel : s.isAt .rend ∨ s.isAt .xwait ∨ s.isAt .flip → s.j = s.config.pixels - 1
  wait_phase : s.isAt .rend ∨ s.isAt .xwait → s.phase = .awaitingExposure
  frame_begun : ¬ s.isAt .strbHi ∨ s.phase = .capturing → s.trace ≠ []
  mem_wf : Memory.wf s.config.toConfig s.fb = true
  expStart_range : s.expStart < s.config.tickMod

/-- The exposure mark of this frame has been taken: `XMARK` has run at `J = CUE` in the AwaitingExposure frame
in progress (R24, R111). -/
def State.Marked (s : State) : Prop :=
  s.phase = .awaitingExposure ∧
    (((s.isAt .clkHi ∨ s.isAt .strbLo ∨ s.isAt .xmark) ∧ s.config.cue < s.j) ∨
      ((s.isAt .samp ∨ s.isAt .clkLo ∨ s.isAt .rend ∨ s.isAt .xwait ∨ s.isAt .flip) ∧ s.config.cue ≤ s.j))

/-- R117 with R24: `EXPSTART` holds this frame's mark once it is taken, and wherever the wait is over and the
capture is on, at least `EXP_TICKS` of unwrapped time have passed since the mark. -/
structure State.ExposureTimed (s : State) : Prop where
  sequenced : s.Sequenced
  mark_held : s.Marked → s.env.markTime ≤ s.env.time ∧ s.expStart = s.env.markTime % s.config.tickMod
  exposed : (s.isAt .flip ∧ s.phase = .awaitingExposure) ∨ s.phase = .capturing →
    s.env.markTime + s.config.expTicks ≤ s.env.time

/-- The Strobe fall of pulse 0; no other pulse has one (R93). -/
def strobeFall (j : Nat) : List Event := if j = 0 then [.strobeSet false] else []

/-- The pin events of pulse `j` (R92 to R94). -/
def pulsePins (j : Nat) : List Event := .clockSet true :: (strobeFall j ++ [.clockSet false])

/-- The pin events of a scan up to the end of its first `n` pulses (R95). -/
def scanPins (n : Nat) : List Event := .strobeSet true :: (List.range n).flatMap pulsePins

/-- The pin events a frame has made when it stands at the operation `i` with `J = j` (R95). -/
def pinsDueAt (pixels j : Nat) : Instr → List Event
  | .strbHi => scanPins pixels
  | .clkHi => scanPins j
  | .strbLo => scanPins j ++ [.clockSet true]
  | .xmark | .samp | .clkLo => scanPins j ++ .clockSet true :: strobeFall j
  | .rend | .xwait | .flip => scanPins (j + 1)

/-- The pin events a frame has made where it stands (R95). -/
def State.pinsDue (s : State) : List Event :=
  match s.fetch with
  | .ok i => pinsDueAt s.config.pixels s.j i
  | .error _ => []

/-- R95 and R96: the pins have done exactly what the position in the frame says. -/
structure State.PinsTraced (s : State) : Prop where
  sequenced : s.Sequenced
  pins : (s.isAt .strbHi ∧ s.trace = []) ∨ s.framePins = s.pinsDue

/-- The sampling events of the readings `vs` (R135): reading `k` at pixel `WIN_N + k * WIN_M`. -/
def samplingOf (c : Config) (vs : List Nat) : List Event :=
  vs.zipIdx.flatMap fun p => [.adcRead (c.winN + p.2 * c.winM) p.1, .fbWrite p.2 (p.1 % 2 ^ c.sampleW)]

/-- R34, R53 and R135: a Capturing frame has read the converter once for each window pixel passed and nothing
else, and the frame buffer's first `WRIDX` entries are those readings; an AwaitingExposure frame reads and
writes nothing. -/
structure State.SamplesTraced (s : State) : Prop where
  sequenced : s.Sequenced
  idle : s.inCapture = false → s.frameSampling = []
  collected : s.inCapture = true → ∃ vs : List Nat, vs.length = s.wrIdx ∧
    s.frameSampling = samplingOf s.config.toConfig vs ∧
    s.fb.take s.wrIdx = vs.map (· % 2 ^ s.config.sampleW)

/-- R28 and R152: frames alternate from `AwaitingExposure`, and one render has been sent for each
AwaitingExposure frame whose `REND` has run. -/
structure State.Alternating (s : State) : Prop where
  sequenced : s.Sequenced
  phase_parity : s.phase = .capturing ↔
    if s.isAt .strbHi then s.framesBegun % 2 = 1 else s.framesBegun % 2 = 0
  begun : ¬ s.isAt .strbHi → 1 ≤ s.framesBegun
  renders : s.rendersSent =
    if s.isAt .strbHi ∨ s.isAt .xwait ∨ s.isAt .flip then (s.framesBegun + 1) / 2 else s.framesBegun / 2

/-- R111 with R24: during a scan the counter has been read exactly once if the mark is taken and not at all
otherwise, and `EXPSTART` is the value read. -/
structure State.MarkedOnce (s : State) : Prop where
  sequenced : s.Sequenced
  scan : ¬ s.isAt .strbHi → ¬ s.isAt .xwait → ¬ (s.isAt .flip ∧ s.phase = .awaitingExposure) →
    (s.Marked → s.frameTicks = [s.expStart]) ∧ (¬ s.Marked → s.frameTicks = [])
  tail : s.isAt .xwait ∨ (s.isAt .flip ∧ s.phase = .awaitingExposure) →
    s.frameTicks.head? = some s.expStart

/-! ### Comparing two machines -/

/-- The same configuration with another renderer threshold, valid again: no clause of R11 reads it. -/
def withThreshold (c : ValidConfig) (x : Nat) : ValidConfig :=
  ⟨{ c.toConfig with threshold := x }, c.valid⟩

/-- The same machine with another renderer threshold (R150). -/
def State.withThreshold (s : State) (x : Nat) : State := { s with config := Machine.withThreshold s.config x }

/-- Two states agree on everything but the readings: the frame buffer, the converter's answers and the trace
that records them (R134, R178). -/
structure State.AgreeButReadings (s t : State) : Prop where
  stepCode : s.stepCode = t.stepCode
  j : s.j = t.j
  phase : s.phase = t.phase
  strobe : s.strobe = t.strobe
  clock : s.clock = t.clock
  expStart : s.expStart = t.expStart
  wrIdx : s.wrIdx = t.wrIdx
  config : s.config = t.config
  rst : s.env.rst = t.env.rst
  time : s.env.time = t.env.time
  tickAdvances : s.env.tickAdvances = t.env.tickAdvances
  tickDraws : s.env.tickDraws = t.env.tickDraws
  resetDraws : s.env.resetDraws = t.env.resetDraws
  markTime : s.env.markTime = t.env.markTime

end Sys2Proof.Machine
end

