-- ==== Sys2Proof/Certificates/Slice0/Obligations.lean ====
section
/-! DEFINITION. The statements for the provers. Each docstring names the rule of spec/ it formalises, and says
where it rests on a decision or an inference of the spec or on a choice of this model. A statement about a
tick or converter answer holds for every pending answer and for every free value. -/

open Sys2Proof Sys2Proof.Machine

/-! ### Codes, fetch, reset, configuration -/

/-- R72 with the table of R71 (the codes are the spec's decision D4): the nine patterns, both ways, and codes 9
to 15 stand for nothing. -/
def Obligations.StepCodesAreThePatterns : Prop :=
  (encode .strbHi = 0b0000#4 ∧ encode .clkHi = 0b0001#4 ∧ encode .strbLo = 0b0010#4 ∧ encode .xmark = 0b0011#4 ∧
    encode .samp = 0b0100#4 ∧ encode .clkLo = 0b0101#4 ∧ encode .rend = 0b0110#4 ∧ encode .xwait = 0b0111#4 ∧
    encode .flip = 0b1000#4) ∧
  (decode 0b0000#4 = .ok .strbHi ∧ decode 0b0001#4 = .ok .clkHi ∧ decode 0b0010#4 = .ok .strbLo ∧
    decode 0b0011#4 = .ok .xmark ∧ decode 0b0100#4 = .ok .samp ∧ decode 0b0101#4 = .ok .clkLo ∧
    decode 0b0110#4 = .ok .rend ∧ decode 0b0111#4 = .ok .xwait ∧ decode 0b1000#4 = .ok .flip) ∧
  ∀ op : StepCode, 9 ≤ op.toNat → decode op = .error (.reservedStep op)

/-- Decoding an encoded operation gives it back, a code that decodes is the code of what it decodes to, and a
row of the opcode table decodes to its operation and no wider or reserved word does (R71, R72, R77; the codes
are the spec's decision D4). -/
def Obligations.DecodeAndEncodeAgree : Prop :=
  (∀ i : Instr, i.wellFormed = true → decode (encode i) = .ok i) ∧
  (∀ (op : StepCode) (i : Instr), decode op = .ok i → encode i = op) ∧
  (∀ (nbits : Nat) (i : Instr), decodeTableWord nbits (encode i).toNat = some i) ∧
  ∀ nbits w : Nat, 9 ≤ w → decodeTableWord nbits w = none

/-- R16 and R26: where `rst` is not asserted for the step, the step is the operation that `STEP` selects, run on
the state with that level of `rst` taken off the pending ones, and on the very state where none is pending. -/
def Obligations.StepRunsTheDecodedOperation : Prop :=
  ∀ (s : State) (i : Instr), decode s.stepCode = .ok i →
    (s.rstAsserted = false →
      step s = exec i { s with env := { s.env with rst := s.env.rst.tail } }) ∧
    (s.env.rst = [] → step s = exec i s)

/-- R77 (decision D22): a state whose `STEP` is reserved faults under that name, for every reserved code; reset
selects `STRB_HI`, and no operation leads to a reserved code. -/
def Obligations.ReservedStepCodeFaults : Prop :=
  (∀ s : State, s.rstAsserted = false → 9 ≤ s.stepCode.toNat → step s = .fault (.reservedStep s.stepCode)) ∧
  State.reset.stepCode = encode .strbHi ∧
  ∀ (i : Instr) (s t : State), exec i s = .next t → t.stepCode.toNat ≤ 8

/-- R195 with R168 and R170 (decisions D10, D11, D19): where `rst` is asserted the step is the reset, from every
state, a state that would fault among them. The pins, `STEP`, `PHASE`, `J`, `WRIDX` and the trace have the
stated values, `EXPSTART` and `FB` are some values in their ranges, the constants and the environment stay, and
once `rst` is released the next step is `STRB_HI`. -/
def Obligations.ResetWinsFromEveryState : Prop :=
  ∀ s : State, s.rstAsserted = true →
    ∃ t, step s = .next t ∧ t.stepCode = encode .strbHi ∧ t.phase = .awaitingExposure ∧ t.j = 0 ∧ t.wrIdx = 0 ∧
      t.strobe = false ∧ t.clock = false ∧ t.trace = [] ∧
      t.expStart < t.config.tickMod ∧ Memory.wf t.config.toConfig t.fb = true ∧
      t.config = s.config ∧ t.env.rst = s.env.rst.tail ∧ t.env.time = s.env.time ∧
      t.env.tickAdvances = s.env.tickAdvances ∧ t.env.adcAnswers = s.env.adcAnswers ∧
      (t.rstAsserted = false → step t = exec .strbHi t.rstTaken)

/-- R195 and the reset column of R20 (decisions D10, D11): the state right after power-on. That nothing is
pending in the environment there is this model's choice (log entries 8, 10, 11). -/
def Obligations.PowerOnIsTheResetState : Prop :=
  State.reset.stepCode = encode .strbHi ∧ State.reset.phase = .awaitingExposure ∧ State.reset.j = 0 ∧
    State.reset.wrIdx = 0 ∧ State.reset.strobe = false ∧ State.reset.clock = false ∧ State.reset.trace = [] ∧
    State.reset.expStart < State.reset.config.tickMod ∧
    Memory.wf State.reset.config.toConfig State.reset.fb = true ∧ State.reset.fromReset

/-- R11 with R166 (decision D8; which broken clause is named is log entry 23): over a configuration that meets V1
to V7 a machine is built, over any other the building is refused under a clause that the configuration breaks, and
the clauses are those of R11. -/
def Obligations.InvalidConfigurationIsRefused : Prop :=
  (∀ (c : Config) (e : Environment),
    (1 ≤ c.pixels ∧ 1 ≤ c.winM ∧ c.sampleCount ≤ c.lineWidth ∧ c.cue ≤ c.pixels - 1 ∧
      (1 ≤ c.ticksPerUs ∧ c.exposureUs * c.ticksPerUs < c.tickMod ∧ 2 ≤ c.tickMod) ∧
      c.adcMax < 2 ^ c.sampleW ∧ 1 ≤ c.lineWidth) →
    ∃ s, instantiate c e = .next s ∧ s.config.toConfig = c ∧ s.fromReset) ∧
  (∀ (c : Config) (e : Environment),
    ¬ (1 ≤ c.pixels ∧ 1 ≤ c.winM ∧ c.sampleCount ≤ c.lineWidth ∧ c.cue ≤ c.pixels - 1 ∧
      (1 ≤ c.ticksPerUs ∧ c.exposureUs * c.ticksPerUs < c.tickMod ∧ 2 ≤ c.tickMod) ∧
      c.adcMax < 2 ^ c.sampleW ∧ 1 ≤ c.lineWidth) →
    ∃ clause, instantiate c e = .refused (.invalidConfig clause) ∧ c.meets clause = false) ∧
  ∀ c : Config,
    (c.meets .v1 = true ↔ 1 ≤ c.pixels) ∧ (c.meets .v2 = true ↔ 1 ≤ c.winM) ∧
    (c.meets .v3 = true ↔ c.sampleCount ≤ c.lineWidth) ∧ (c.meets .v4 = true ↔ c.cue ≤ c.pixels - 1) ∧
    (c.meets .v5 = true ↔
      1 ≤ c.ticksPerUs ∧ c.exposureUs * c.ticksPerUs < c.tickMod ∧ 2 ≤ c.tickMod) ∧
    (c.meets .v6 = true ↔ c.adcMax < 2 ^ c.sampleW) ∧ (c.meets .v7 = true ↔ 1 ≤ c.lineWidth)

/-- R9: the constants of the hardware's instance (`SAMPLE_W` by decision D5); of the two open ones only what
clause V5 says is known. -/
def Obligations.HardwareInstanceConstants : Prop :=
  State.reset.config.pixels = 128 ∧ State.reset.config.cue = 18 ∧ State.reset.config.winN = 34 ∧
    State.reset.config.winM = 3 ∧ State.reset.config.threshold = 2500 ∧ State.reset.config.exposureUs = 300000 ∧
    State.reset.config.lineWidth = 21 ∧ State.reset.config.adcMax = 4094 ∧ State.reset.config.sampleW = 12 ∧
    1 ≤ State.reset.config.ticksPerUs ∧ 300000 * State.reset.config.ticksPerUs < State.reset.config.tickMod

/-! ### The nine operations -/

/-- R91 (where `J` and `WRIDX` are cleared is the spec's decisions D12 and D14): Strobe rises, `J` and `WRIDX`
are cleared, nothing else changes; before it, in a sequenced state, both lines are low. -/
def Obligations.StrbHiBeginsAFrame : Prop :=
  encode .strbHi = 0b0000#4 ∧
  (∀ s : State, exec .strbHi s = .next { s with
    strobe := true, j := 0, wrIdx := 0, stepCode := 0b0001#4, trace := s.trace ++ [.strobeSet true] }) ∧
  ∀ s : State, s.Sequenced → s.isAt .strbHi → s.strobe = false ∧ s.clock = false

/-- R92: Clock rises and nothing else changes; before it, in a sequenced state, Clock is low, and Strobe is high
exactly at pixel 0 (the spec's inference from R29 and R30). -/
def Obligations.ClkHiRaisesClock : Prop :=
  encode .clkHi = 0b0001#4 ∧
  (∀ s : State, exec .clkHi s = .next { s with
    clock := true, stepCode := 0b0010#4, trace := s.trace ++ [.clockSet true] }) ∧
  ∀ s : State, s.Sequenced → s.isAt .clkHi → s.clock = false ∧ (s.strobe = true ↔ s.j = 0)

/-- R93: at pixel 0 Strobe falls; elsewhere only `STEP` changes and no event is appended. In a sequenced state
the fall is a real one, made while Clock is high, and a whole frame has exactly one. -/
def Obligations.StrbLoLowersStrobeOnFirstPulse : Prop :=
  encode .strbLo = 0b0010#4 ∧
  (∀ s : State, s.j = 0 → exec .strbLo s = .next { s with
    strobe := false, stepCode := 0b0011#4, trace := s.trace ++ [.strobeSet false] }) ∧
  (∀ s : State, s.j ≠ 0 → exec .strbLo s = .next { s with stepCode := 0b0011#4 }) ∧
  (∀ s : State, s.Sequenced → s.isAt .strbLo → s.j = 0 → s.strobe = true ∧ s.clock = true) ∧
  ∀ s : State, s.PinsTraced → s.isAt .flip → s.framePins.count (.strobeSet false) = 1

/-- R94: Clock falls; before the last pulse `J` counts up and the next pulse begins, after it `J` stays and the
phase selects the tail. In a sequenced state the fall is a real one, and `J` stays in its range. That `J` keeps
`PIXELS-1` is the spec's decision D14 (log entry 22), and that `J` above `PIXELS-1` takes the branch of the last
pulse is the model's choice (log entry 25). -/
def Obligations.ClkLoLowersClockAndCounts : Prop :=
  encode .clkLo = 0b0101#4 ∧
  (∀ s : State, s.j < s.config.pixels - 1 → exec .clkLo s = .next { s with
    clock := false, j := s.j + 1, stepCode := 0b0001#4, trace := s.trace ++ [.clockSet false] }) ∧
  (∀ s : State, ¬ s.j < s.config.pixels - 1 → s.phase = .awaitingExposure → exec .clkLo s = .next { s with
    clock := false, stepCode := 0b0110#4, trace := s.trace ++ [.clockSet false] }) ∧
  (∀ s : State, ¬ s.j < s.config.pixels - 1 → s.phase = .capturing → exec .clkLo s = .next { s with
    clock := false, stepCode := 0b1000#4, trace := s.trace ++ [.clockSet false] }) ∧
  ∀ s : State, s.Sequenced → s.isAt .clkLo →
    s.clock = true ∧ (¬ s.j < s.config.pixels - 1 → s.j = s.config.pixels - 1) ∧
      ∀ t, exec .clkLo s = .next t → t.j ≤ s.config.pixels - 1

/-- R111 with R175 (the tick answer's form is log entry 8): in an AwaitingExposure frame at `J = CUE` the counter
is read and its value kept; at every other pixel and in a Capturing frame only `STEP` changes. -/
def Obligations.XmarkRecordsTheExposureStart : Prop :=
  encode .xmark = 0b0011#4 ∧
  (∀ (s : State) (d : Nat) (ds : List Nat), s.phase = .awaitingExposure → s.j = s.config.cue →
    s.env.tickAdvances = d :: ds →
    exec .xmark s = .next { s with
      expStart := (s.env.time + d) % s.config.tickMod, stepCode := 0b0100#4,
      trace := s.trace ++ [.tickRead ((s.env.time + d) % s.config.tickMod)],
      env := { s.env with time := s.env.time + d, tickAdvances := ds, markTime := s.env.time + d } }) ∧
  (∀ s : State, s.phase = .awaitingExposure → s.j = s.config.cue → s.env.tickAdvances = [] →
    ∃ d, exec .xmark s = .next { s with
      expStart := (s.env.time + d) % s.config.tickMod, stepCode := 0b0100#4,
      trace := s.trace ++ [.tickRead ((s.env.time + d) % s.config.tickMod)],
      env := { s.env with
        time := s.env.time + d, tickDraws := s.env.tickDraws + 1, markTime := s.env.time + d } }) ∧
  ∀ s : State, ¬ (s.phase = .awaitingExposure ∧ s.j = s.config.cue) →
    exec .xmark s = .next { s with stepCode := 0b0100#4 }

/-- R113 with R112 and R175 (decisions D13, D24; the tick answer's form is log entry 8): one fresh tick read, and
the wait ends exactly when the difference is at least `EXP_TICKS`. -/
def Obligations.XwaitComparesAFreshTick : Prop :=
  encode .xwait = 0b0111#4 ∧
  (∀ (s : State) (d : Nat) (ds : List Nat), s.env.tickAdvances = d :: ds →
    exec .xwait s = .next { s with
      stepCode := if s.config.exposureUs * s.config.ticksPerUs ≤
          ((s.env.time + d) % s.config.tickMod + s.config.tickMod - s.expStart) % s.config.tickMod
        then 0b1000#4 else 0b0111#4,
      trace := s.trace ++ [.tickRead ((s.env.time + d) % s.config.tickMod)],
      env := { s.env with time := s.env.time + d, tickAdvances := ds } }) ∧
  ∀ s : State, s.env.tickAdvances = [] →
    ∃ d, exec .xwait s = .next { s with
      stepCode := if s.config.exposureUs * s.config.ticksPerUs ≤
          ((s.env.time + d) % s.config.tickMod + s.config.tickMod - s.expStart) % s.config.tickMod
        then 0b1000#4 else 0b0111#4,
      trace := s.trace ++ [.tickRead ((s.env.time + d) % s.config.tickMod)],
      env := { s.env with time := s.env.time + d, tickDraws := s.env.tickDraws + 1 } }

/-- R115: the phase toggles and nothing else changes but `STEP`; no other operation writes the phase; `FLIP`
follows a wait that is over and the last `CLK_LO` of a Capturing frame and nothing else, and `STRB_HI` follows
`FLIP` and nothing else, so the phase changes exactly once per frame. What `FLIP` follows rests on the comparison
of R113 (decision D13; log entry 21), and that `J` above `PIXELS-1` counts as the last pulse of R94 is the model's
choice (log entry 25). -/
def Obligations.FlipChangesPhase : Prop :=
  encode .flip = 0b1000#4 ∧
  (∀ s : State, s.phase = .awaitingExposure →
    exec .flip s = .next { s with phase := .capturing, stepCode := 0b0000#4 }) ∧
  (∀ s : State, s.phase = .capturing →
    exec .flip s = .next { s with phase := .awaitingExposure, stepCode := 0b0000#4 }) ∧
  ∀ (i : Instr) (s t : State), exec i s = .next t →
    (i ≠ .flip → t.phase = s.phase) ∧ (t.stepCode = 0b0000#4 ↔ i = .flip) ∧
    (t.stepCode = 0b1000#4 ↔
      (i = .xwait ∧ s.config.expTicks ≤ s.config.tsub s.tickNow s.expStart) ∨
      (i = .clkLo ∧ ¬ s.j < s.config.pixels - 1 ∧ s.phase = .capturing))

/-- R131 (the entry's width is decision D5; the answer's form is log entry 10): a due sample with room is read
once, stored at `WRIDX` at the width of an entry, and `WRIDX` advances; where no sample is due only `STEP`
changes. -/
def Obligations.SampCollectsADueSample : Prop :=
  encode .samp = 0b0100#4 ∧
  (∀ (s : State) (v : Nat) (vs : List Nat), s.phase = .capturing → s.config.winN ≤ s.j →
    s.j + s.config.winN ≤ s.config.pixels → (s.j - s.config.winN) % s.config.winM = 0 →
    s.wrIdx < s.config.lineWidth → s.env.adcAnswers = v :: vs →
    exec .samp s = .next { s with
      fb := s.fb.set s.wrIdx (v % 2 ^ s.config.sampleW), wrIdx := s.wrIdx + 1, stepCode := 0b0101#4,
      trace := s.trace ++ [.adcRead s.j v, .fbWrite s.wrIdx (v % 2 ^ s.config.sampleW)],
      env := { s.env with adcAnswers := vs } }) ∧
  (∀ s : State, s.phase = .capturing → s.config.winN ≤ s.j →
    s.j + s.config.winN ≤ s.config.pixels → (s.j - s.config.winN) % s.config.winM = 0 →
    s.wrIdx < s.config.lineWidth → s.env.adcAnswers = [] →
    ∃ v, exec .samp s = .next { s with
      fb := s.fb.set s.wrIdx (v % 2 ^ s.config.sampleW), wrIdx := s.wrIdx + 1, stepCode := 0b0101#4,
      trace := s.trace ++ [.adcRead s.j v, .fbWrite s.wrIdx (v % 2 ^ s.config.sampleW)],
      env := { s.env with adcDraws := s.env.adcDraws + 1 } }) ∧
  ∀ s : State, ¬ (s.phase = .capturing ∧ s.config.winN ≤ s.j ∧ s.j + s.config.winN ≤ s.config.pixels ∧
      (s.j - s.config.winN) % s.config.winM = 0) →
    exec .samp s = .next { s with stepCode := 0b0101#4 }

/-- R131 with R166 (decision D18; that an index above `LINE_WIDTH` is treated alike is log entry 14): a due sample
with no room faults, with the state as it was, and a reset leaves the fault. -/
def Obligations.SampOverflowFaults : Prop :=
  ∀ s : State, s.phase = .capturing → s.config.winN ≤ s.j →
    s.j + s.config.winN ≤ s.config.pixels → (s.j - s.config.winN) % s.config.winM = 0 →
    s.config.lineWidth ≤ s.wrIdx →
    exec .samp s = .fault .frameBufferOverflow ∧
    (s.stepCode = encode .samp → s.rstAsserted = false → step s = .fault .frameBufferOverflow) ∧
    ∃ t, step { s with env := { s.env with rst := [true] } } = .next t ∧ t.isAt .strbHi

/-- R151 (a copy of all entries by decision D15): the whole buffer is handed over as it stands and nothing changes
but `STEP`; in a sequenced state it runs in the tail of an AwaitingExposure frame with both lines low, and the
copy has `LINE_WIDTH` entries. -/
def Obligations.RendHandsOverTheBuffer : Prop :=
  encode .rend = 0b0110#4 ∧
  (∀ s : State, exec .rend s = .next { s with
    stepCode := 0b0111#4, trace := s.trace ++ [.render s.fb] }) ∧
  ∀ s : State, s.Sequenced → s.isAt .rend →
    s.phase = .awaitingExposure ∧ s.j = s.config.pixels - 1 ∧ s.strobe = false ∧ s.clock = false ∧
      s.fb.length = s.config.lineWidth

/-! ### Frames: what the operations leave unchanged (R74) -/

/-- The pin operations `STRB_HI`, `CLK_HI`, `STRB_LO`, `CLK_LO`: beyond what each writes, nothing changes, and no
entry of the frame buffer does (R74, R91 to R94). -/
def Obligations.PinOperationsFrame : Prop :=
  ∀ (i : Instr) (s t : State), i = .strbHi ∨ i = .clkHi ∨ i = .strbLo ∨ i = .clkLo → exec i s = .next t →
    t.phase = s.phase ∧ t.expStart = s.expStart ∧ t.env = s.env ∧ t.config = s.config ∧
    (∀ k, t.fb.read k = s.fb.read k) ∧ s.trace <+: t.trace ∧
    (i = .clkHi ∨ i = .clkLo → t.strobe = s.strobe) ∧ (i = .strbHi ∨ i = .strbLo → t.clock = s.clock) ∧
    (i = .clkHi ∨ i = .strbLo → t.j = s.j) ∧ (i ≠ .strbHi → t.wrIdx = s.wrIdx)

/-- The timer operations `XMARK`, `XWAIT`, `FLIP`: beyond what each writes, nothing changes, and no entry of the
frame buffer does (R74, R111, R113, R115). -/
def Obligations.TimerOperationsFrame : Prop :=
  ∀ (i : Instr) (s t : State), i = .xmark ∨ i = .xwait ∨ i = .flip → exec i s = .next t →
    t.j = s.j ∧ t.strobe = s.strobe ∧ t.clock = s.clock ∧ t.wrIdx = s.wrIdx ∧ t.config = s.config ∧
    (∀ k, t.fb.read k = s.fb.read k) ∧ s.trace <+: t.trace ∧
    (i ≠ .flip → t.phase = s.phase) ∧ (i ≠ .xmark → t.expStart = s.expStart ∧ t.env.markTime = s.env.markTime) ∧
    (i = .flip → t.env = s.env ∧ t.trace = s.trace) ∧
    t.env.rst = s.env.rst ∧ t.env.adcAnswers = s.env.adcAnswers ∧ t.env.adcDraws = s.env.adcDraws ∧
    t.env.resetDraws = s.env.resetDraws

/-- `SAMP`: every entry but the one at the computed store index, and every entry where nothing is stored, reads
as before; no register changes but `WRIDX`, and no tick answer is taken (R74, R131, R136). -/
def Obligations.SampFrame : Prop :=
  ∀ s t : State, exec .samp s = .next t →
    (∀ a, s.storeIndex = some a → ∀ k, k ≠ a → t.fb.read k = s.fb.read k) ∧
    (s.storeIndex = none → (∀ k, t.fb.read k = s.fb.read k) ∧ t.wrIdx = s.wrIdx ∧ t.env = s.env ∧
      t.trace = s.trace) ∧
    t.j = s.j ∧ t.phase = s.phase ∧ t.strobe = s.strobe ∧ t.clock = s.clock ∧ t.expStart = s.expStart ∧
    t.config = s.config ∧ s.trace <+: t.trace ∧
    t.env.rst = s.env.rst ∧ t.env.time = s.env.time ∧ t.env.tickAdvances = s.env.tickAdvances ∧
    t.env.tickDraws = s.env.tickDraws ∧ t.env.resetDraws = s.env.resetDraws ∧ t.env.markTime = s.env.markTime

/-- `REND`: no register, no pin, no answer and no entry of the frame buffer changes (R74, R151). -/
def Obligations.RendFrame : Prop :=
  ∀ s t : State, exec .rend s = .next t →
    t.j = s.j ∧ t.phase = s.phase ∧ t.strobe = s.strobe ∧ t.clock = s.clock ∧ t.expStart = s.expStart ∧
    t.wrIdx = s.wrIdx ∧ (∀ k, t.fb.read k = s.fb.read k) ∧ t.env = s.env ∧ t.config = s.config ∧
    s.trace <+: t.trace

/-! ### Invariants -/

/-- Every reset state, over any valid configuration and any environment, meets every invariant stated below. -/
def Obligations.ResetMeetsEveryInvariant : Prop :=
  ∀ s : State, s.fromReset →
    s.Sequenced ∧ s.ExposureTimed ∧ s.PinsTraced ∧ s.SamplesTraced ∧ s.Alternating ∧ s.MarkedOnce

/-- R40, an inference of the spec from R22, R23, R29, R30 and R75: every step keeps the position, the counts, the
pin levels and the ranges in step with each other. -/
def Obligations.StepKeepsSequenced : Prop :=
  ∀ s t : State, s.Sequenced → step s = .next t → t.Sequenced

/-- R165, R166, R173 and the premise `NoFault` of R208, which "holds of every run": from a state that meets R40 the
machine does not stop, and no run from there ends in a fault. -/
def Obligations.SequencedMachineNeverStops : Prop :=
  ∀ s : State, s.Sequenced → (∃ t, step s = .next t) ∧ s.noFault

/-- R95 and R96, inferences of the spec from R91 to R94: every step keeps the frame's pin events exactly what its
position says. -/
def Obligations.StepKeepsPinsTraced : Prop :=
  ∀ s t : State, s.PinsTraced → step s = .next t → t.PinsTraced

/-- R117 with R24, inferences of the spec: every step keeps `EXPSTART` the mark of its own frame, and every
Capturing frame at least `EXP_TICKS` of unwrapped time away from the mark, whatever the counter answers. The
unwrapped time of the mark is the model's own record (log entry 17). -/
def Obligations.StepKeepsExposureTimed : Prop :=
  ∀ s t : State, s.ExposureTimed → step s = .next t → t.ExposureTimed

/-- R34, R53 and R135, inferences of the spec from R131: every step keeps the frame's converter reads and buffer
writes exactly the window pixels passed, and the buffer's first `WRIDX` entries those readings. -/
def Obligations.StepKeepsSamplesTraced : Prop :=
  ∀ s t : State, s.SamplesTraced → step s = .next t → t.SamplesTraced

/-- R28 and R152: every step keeps the strict alternation of the frames from `AwaitingExposure`, and one render
for each AwaitingExposure frame. -/
def Obligations.StepKeepsAlternating : Prop :=
  ∀ s t : State, s.Alternating → step s = .next t → t.Alternating

/-- R111's quotation of the source: "During an `AwaitingExposure` frame, the exposure-start tick is recorded
exactly once, at pixel index `CLOCKS_UNTIL_EXPOSURE`". -/
def Obligations.StepKeepsMarkedOnce : Prop :=
  ∀ s t : State, s.MarkedOnce → step s = .next t → t.MarkedOnce

/-- The frame buffer keeps its canonical form under every step, from every state that has it (R33, R54). -/
def Obligations.StepKeepsMemoryForm : Prop :=
  ∀ s t : State, Memory.wf s.config.toConfig s.fb = true → step s = .next t →
    Memory.wf t.config.toConfig t.fb = true

/-! ### What the invariants say of a frame -/

/-- R95: the pin trace of a whole frame, of either phase. -/
def Obligations.WholeFramePinTrace : Prop :=
  ∀ s : State, s.PinsTraced → s.isAt .flip ∨ (s.isAt .strbHi ∧ s.trace ≠ []) →
    s.framePins = [.strobeSet true, .clockSet true, .strobeSet false, .clockSet false] ++
      (List.replicate (s.config.pixels - 1) [.clockSet true, .clockSet false]).flatten ∧
    s.framePins.length = 2 * s.config.pixels + 2

/-- R96: `J` tracks the pulses made in this frame. -/
def Obligations.PulseTracking : Prop :=
  ∀ s : State, s.PinsTraced → ¬ s.isAt .strbHi →
    s.framePins.count (.clockSet true) =
      (if s.clock = true ∨ s.isAt .rend ∨ s.isAt .xwait ∨ s.isAt .flip then s.j + 1 else s.j) ∧
    s.framePins.count (.clockSet false) =
      (if s.isAt .rend ∨ s.isAt .xwait ∨ s.isAt .flip then s.j + 1 else s.j)

/-- R117: an AwaitingExposure frame comes to `FLIP` only by an `XWAIT` whose own tick read met the comparison, and
then at least `EXP_TICKS` of unwrapped time have passed since the mark, however often the counter wrapped. -/
def Obligations.WaitNeverEndsEarly : Prop :=
  ∀ s t : State, s.ExposureTimed → s.rstAsserted = false → step s = .next t → t.isAt .flip →
    t.phase = .awaitingExposure →
    s.isAt .xwait ∧
      s.config.expTicks ≤ s.config.tsub (t.env.time % s.config.tickMod) s.expStart ∧
      t.trace = s.trace ++ [.tickRead (t.env.time % s.config.tickMod)] ∧
      s.env.markTime + s.config.expTicks ≤ t.env.time

/-- R34 and R135: at the end of a Capturing frame the first `SAMPLE_COUNT` entries are the frame's readings, in
the order of the window pixels. -/
def Obligations.FinishedCaptureHoldsTheReadings : Prop :=
  ∀ s : State, s.SamplesTraced → s.isAt .flip → s.phase = .capturing →
    ∃ vs : List Nat, vs.length = s.config.sampleCount ∧
      s.frameSampling = samplingOf s.config.toConfig vs ∧
      ∀ k v, vs[k]? = some v → s.fb.read k = some (v % 2 ^ s.config.sampleW)

/-! ### Runs (premise `NoResetDuring` of R208, for as many steps as the run has) -/

/-- R76 and R135: a Capturing frame takes `5 * PIXELS + 2` steps, executes exactly `FRAME_CAP`, and stores the next
`SAMPLE_COUNT` answers of the converter in order, leaving the other entries as they were. -/
def Obligations.CapturingFrameRun : Prop :=
  ∀ (s : State) (vs rest : List Nat), s.Sequenced → s.noResetDuring (5 * s.config.pixels + 2) = true →
    s.isAt .strbHi → s.phase = .capturing → s.env.adcAnswers = vs ++ rest → vs.length = s.config.sampleCount →
    opsRun (5 * s.config.pixels + 2) s = frameCapOps s.config.pixels ∧
    ∃ t, run (5 * s.config.pixels + 2) s = .next t ∧ t.isAt .strbHi ∧ t.phase = .awaitingExposure ∧
      t.j = s.config.pixels - 1 ∧ t.wrIdx = s.config.sampleCount ∧ t.strobe = false ∧ t.clock = false ∧
      t.expStart = s.expStart ∧ t.env.time = s.env.time ∧ t.env.tickAdvances = s.env.tickAdvances ∧
      t.env.adcAnswers = rest ∧ t.config = s.config ∧ t.env.rst = s.env.rst.drop (5 * s.config.pixels + 2) ∧
      t.fb = vs.map (· % 2 ^ s.config.sampleW) ++ s.fb.drop s.config.sampleCount ∧
      t.framePins = scanPins s.config.pixels ∧ t.frameSampling = samplingOf s.config.toConfig vs

/-- R76, R110 and R151: an AwaitingExposure frame comes to its wait in `5 * PIXELS + 2` steps, having executed the
scan and `REND`, marked the tick once, rendered the buffer as it stood and read no pixel. -/
def Obligations.AwaitingFrameRunsToTheWait : Prop :=
  ∀ s : State, s.Sequenced → s.noResetDuring (5 * s.config.pixels + 2) = true → s.isAt .strbHi →
    s.phase = .awaitingExposure →
    opsRun (5 * s.config.pixels + 2) s = scanOps s.config.pixels ++ [.rend] ∧
    ∃ t, run (5 * s.config.pixels + 2) s = .next t ∧ t.isAt .xwait ∧ t.phase = .awaitingExposure ∧
      t.j = s.config.pixels - 1 ∧ t.wrIdx = 0 ∧ t.strobe = false ∧ t.clock = false ∧ t.fb = s.fb ∧
      t.expStart = s.tickNow ∧ t.env.time = s.tickTime ∧ t.env.markTime = s.tickTime ∧
      t.env.tickAdvances = s.env.tickAdvances.tail ∧ t.env.adcAnswers = s.env.adcAnswers ∧
      t.config = s.config ∧ t.env.rst = s.env.rst.drop (5 * s.config.pixels + 2) ∧
      t.trace.getLast? = some (.render s.fb) ∧ t.frameSampling = [] ∧ t.frameTicks = [s.tickNow]

/-- R152: the buffer filled in a Capturing frame is what the next frame's render hands over. -/
def Obligations.RenderShowsThePrecedingCapture : Prop :=
  ∀ (s : State) (vs rest : List Nat), s.Sequenced → s.noResetDuring (10 * s.config.pixels + 4) = true →
    s.isAt .strbHi → s.phase = .capturing → s.env.adcAnswers = vs ++ rest → vs.length = s.config.sampleCount →
    ∃ t, run (10 * s.config.pixels + 4) s = .next t ∧ t.isAt .xwait ∧
      t.trace.getLast? =
        some (.render (vs.map (· % 2 ^ s.config.sampleW) ++ s.fb.drop s.config.sampleCount)) ∧
      t.rendersSent = s.rendersSent + 1 ∧ t.framesBegun = s.framesBegun + 2

/-- R114: the wait ends at the first execution whose tick answer lies in the window, after exactly that many
executions of `XWAIT`, with nothing but time and the trace changed. -/
def Obligations.WaitEndsAtTheFirstAnswerInTheWindow : Prop :=
  ∀ (s : State) (ds : List Nat) (d : Nat) (rest : List Nat), s.isAt .xwait →
    s.noResetDuring (ds.length + 1) = true → s.env.tickAdvances = ds ++ d :: rest →
    (∀ k, k < ds.length →
      s.config.tsub ((s.env.time + (ds.take (k + 1)).sum) % s.config.tickMod) s.expStart < s.config.expTicks) →
    s.config.expTicks ≤ s.config.tsub ((s.env.time + ds.sum + d) % s.config.tickMod) s.expStart →
    opsRun (ds.length + 1) s = List.replicate (ds.length + 1) .xwait ∧
    ∃ t, run (ds.length + 1) s = .next t ∧ t.isAt .flip ∧ t.phase = s.phase ∧ t.j = s.j ∧
      t.strobe = s.strobe ∧ t.clock = s.clock ∧ t.expStart = s.expStart ∧ t.wrIdx = s.wrIdx ∧ t.fb = s.fb ∧
      t.config = s.config ∧ t.env.time = s.env.time + ds.sum + d ∧ t.env.tickAdvances = rest ∧
      t.env.markTime = s.env.markTime ∧
      t.trace = s.trace ++ (List.range (ds.length + 1)).map fun k =>
        .tickRead ((s.env.time + ((ds ++ [d]).take (k + 1)).sum) % s.config.tickMod)

/-- R173: while no answer lies in the window the engine stays in `XWAIT`, for as long as that lasts, with both
lines, the phase and the buffer as they were; a counter that has stopped short of the window is such a case. -/
def Obligations.WaitGoesOnWhileAnswersMissTheWindow : Prop :=
  (∀ (s : State) (ds rest : List Nat), s.isAt .xwait → s.noResetDuring ds.length = true →
    s.env.tickAdvances = ds ++ rest →
    (∀ k, k < ds.length →
      s.config.tsub ((s.env.time + (ds.take (k + 1)).sum) % s.config.tickMod) s.expStart < s.config.expTicks) →
    ∃ t, run ds.length s = .next t ∧ t.isAt .xwait ∧ t.phase = s.phase ∧ t.j = s.j ∧ t.strobe = s.strobe ∧
      t.clock = s.clock ∧ t.expStart = s.expStart ∧ t.wrIdx = s.wrIdx ∧ t.fb = s.fb ∧
      t.env.tickAdvances = rest) ∧
  ∀ (s : State) (n : Nat), s.isAt .xwait → s.noResetDuring n = true → s.env.tickAdvances = List.replicate n 0 →
    s.config.tsub (s.env.time % s.config.tickMod) s.expStart < s.config.expTicks →
    ∃ t, run n s = .next t ∧ t.isAt .xwait ∧ t.env.time = s.env.time

/-- R204 with R114: where the counter never advances by more than `TICK_MOD - EXP_TICKS` between two evaluations
(the premise under which R114 says that `WaitSampled` follows from `TickProgress`) and the pending answers
cover a whole lap of the counter, the wait ends. -/
def Obligations.WaitEndsWhenPolledOftenEnough : Prop :=
  ∀ s : State, s.Sequenced → s.isAt .xwait → s.noResetDuring s.env.tickAdvances.length = true →
    (∀ d ∈ s.env.tickAdvances, d ≤ s.config.tickMod - s.config.expTicks) →
    s.config.tickMod ≤ s.env.tickAdvances.sum →
    ∃ n t, n ≤ s.env.tickAdvances.length ∧ run n s = .next t ∧ t.isAt .flip ∧ t.phase = .awaitingExposure

/-! ### Arithmetic -/

/-- R12, an inference of the spec from R10: the closed form of `SAMPLE_COUNT`, its value for the hardware, and
that no step changes it. -/
def Obligations.SampleCountClosedForm : Prop :=
  (∀ c : Config, c.firstViolated = none →
    c.sampleCount =
      if c.pixels < 2 * c.winN then 0
      else if min (c.pixels - c.winN) (c.pixels - 1) < c.winN then 0
      else (min (c.pixels - c.winN) (c.pixels - 1) - c.winN) / c.winM + 1) ∧
  Config.hw.sampleCount = 21 ∧
  ∀ s t : State, step s = .next t → t.config.sampleCount = s.config.sampleCount

/-- R132: the hardware's sampled pixels in full, every other index unsampled; in general the `k`-th sampled index
is `WIN_N + k * WIN_M`, and `SAMP` fills entry `k` with its reading. -/
def Obligations.SampledIndicesFillTheBufferInOrder : Prop :=
  (List.range 128).filter Config.hw.inWindow =
    [34, 37, 40, 43, 46, 49, 52, 55, 58, 61, 64, 67, 70, 73, 76, 79, 82, 85, 88, 91, 94] ∧
  Config.hw.sampleCount = Config.hw.lineWidth ∧
  (∀ c : Config, c.firstViolated = none →
    (List.range c.pixels).filter c.inWindow = (List.range c.sampleCount).map fun k => c.winN + k * c.winM) ∧
  ∀ (s : State) (k : Nat), s.Sequenced → s.isAt .samp → s.phase = .capturing → k < s.config.sampleCount →
    s.j = s.config.winN + k * s.config.winM →
    s.wrIdx = k ∧ ∃ t, exec .samp s = .next t ∧ t.fb.read k = some s.sample

/-- R112 (decision D13): the tick difference, its range and its two other forms. -/
def Obligations.TickDifferenceForms : Prop :=
  ∀ (c : Config) (a b : Nat), a < c.tickMod → b < c.tickMod →
    c.tsub a b < c.tickMod ∧
    c.tsub a b = (if b ≤ a then a - b else a + c.tickMod - b) ∧
    ∀ w, c.tickMod = 2 ^ w → c.tsub a b = (BitVec.ofNat w a - BitVec.ofNat w b).toNat

/-- R117 and R118, inferences of the spec: the tick difference of two readings never exceeds the true elapsed
time, and is the true one below a lap of the counter. -/
def Obligations.TickDifferenceNeverExceedsElapsedTime : Prop :=
  ∀ (c : Config) (t0 t : Nat), 0 < c.tickMod → t0 ≤ t →
    c.tsub (t % c.tickMod) (t0 % c.tickMod) = (t - t0) % c.tickMod ∧
    c.tsub (t % c.tickMod) (t0 % c.tickMod) ≤ t - t0 ∧
    (t - t0 < c.tickMod → c.tsub (t % c.tickMod) (t0 % c.tickMod) = t - t0)

/-! ### Ports and the renderer -/

/-- R153, which reads 'exceeds' as strictly greater (N10; log entry 19): a glyph is high exactly
when the value exceeds the threshold, and the line has one glyph per entry in index order. -/
def Obligations.GlyphIsHighAboveThreshold : Prop :=
  (∀ threshold v : Nat, (threshold < v → glyphOf threshold v = .high) ∧ (v ≤ threshold → glyphOf threshold v = .low)) ∧
  (∀ (threshold : Nat) (buf : List Nat) (k : Nat),
    (renderLine threshold buf)[k]? = (buf[k]?).map (glyphOf threshold)) ∧
  Config.hw.threshold = 2500

/-- R154 and R155 (the two characters are the open parameters of D23): one render clears the display and writes
one character per entry, in index order; the source's example comes out as the source says. -/
def Obligations.DisplayLineClearsAndWrites : Prop :=
  (∀ (g : GlyphSet) (threshold : Nat) (buf : List Nat),
    displayLine g threshold buf =
      .clear :: buf.map (fun v => .writeGlyph (if threshold < v then g.high else g.low)) ∧ g.high ≠ g.low) ∧
  renderLine 2500 [100, 3000, 2400, 2600] = [.low, .high, .low, .high]

/-- R150 and R179: an operation sends something to the display exactly when it is `REND`, and then the line of the
buffer as it stood. -/
def Obligations.OnlyRendReachesTheDisplay : Prop :=
  ∀ (s t : State) (g : GlyphSet), s.rstAsserted = false → step s = .next t →
    t.display g = s.display g ++ if s.isAt .rend then displayLine g s.config.threshold s.fb else []

/-- R133 (decision D17): the trigger output is asserted exactly in the steps that read the converter, and each
such step reads once, before it stores what it read. -/
def Obligations.AdcTriggerMeansOneRead : Prop :=
  ∀ s t : State, s.rstAsserted = false → step s = .next t →
    (s.adcTrigger = true ↔
      ∃ v, t.trace = s.trace ++ [.adcRead s.j v, .fbWrite s.wrIdx (v % 2 ^ s.config.sampleW)]) ∧
    (s.adcTrigger = false → ∀ j v, Event.adcRead j v ∉ t.trace.drop s.trace.length)

/-- R38 (decision D16): the tick input is sampled exactly in the steps that record a tick read, one each. -/
def Obligations.TickSampledMeansOneRead : Prop :=
  ∀ s t : State, s.rstAsserted = false → step s = .next t →
    (s.tickSampled = true ↔ ∃ v, t.trace = s.trace ++ [.tickRead v]) ∧
    (s.tickSampled = false → ∀ v, Event.tickRead v ∉ t.trace.drop s.trace.length)

/-- R50 and R38 (decision D21): on `render_data` entry `k` stands in bits `[(k+1)*SAMPLE_W-1 : k*SAMPLE_W]`, and
`render_valid` marks the steps that send it. The spec gives `render_data` its value during `REND` alone; that it shows
the buffer in every state, also outside `REND` and where `rst` replaces the step, is the model's choice (log entry
30). -/
def Obligations.RenderDataHoldsEntriesInOrder : Prop :=
  (∀ s : State, Memory.wf s.config.toConfig s.fb = true → ∀ k v, s.fb.read k = some v →
    (s.renderData.extractLsb' (k * s.config.sampleW) s.config.sampleW).toNat = v) ∧
  ∀ s t : State, s.rstAsserted = false → step s = .next t →
    (s.renderValid = true ↔ t.trace = s.trace ++ [.render s.fb])

/-- R22, R23, R24 and R33: in every sequenced state each register fits the width the spec gives it, so its binary
form (R73) loses nothing; for the hardware `J` has 7 bits and `WRIDX` 5. -/
def Obligations.RegistersFitTheirWidths : Prop :=
  (∀ s : State, s.Sequenced →
    s.jBits.toNat = s.j ∧ s.wrIdxBits.toNat = s.wrIdx ∧ s.expStartBits.toNat = s.expStart ∧
    ∀ k v, s.fb.read k = some v → ∃ b, s.fbBits k = some b ∧ b.toNat = v) ∧
  Config.hw.jWidth = 7 ∧ Config.hw.wrIdxWidth = 5

/-! ### The whole machine -/

/-- R75: the successor table is the whole of the control transfer: the next `STEP`, what becomes of `J`, and that
only `FLIP` toggles the phase. That `J` above `PIXELS-1`, which the table does not name, counts as the last pulse is
the model's choice (log entry 25). -/
def Obligations.SuccessorTableIsTheControlTransfer : Prop :=
  ∀ (i : Instr) (s t : State), exec i s = .next t →
    t.isAt (s.successor i) ∧
    (i = .strbHi → t.j = 0) ∧
    (i = .clkLo → s.j < s.config.pixels - 1 → t.j = s.j + 1) ∧
    (i = .clkLo → ¬ s.j < s.config.pixels - 1 → t.j = s.j) ∧
    (i ≠ .strbHi → i ≠ .clkLo → t.j = s.j) ∧
    (t.phase ≠ s.phase ↔ i = .flip)

/-- R173, first sentence: every operation but `XWAIT` moves `STEP` on. -/
def Obligations.OnlyXwaitCanStay : Prop :=
  ∀ (i : Instr) (s t : State), exec i s = .next t →
    (i ≠ .xwait → ¬ t.isAt i) ∧ (i = .xwait → t.isAt .xwait ∨ t.isAt .flip)

/-- R168 (decision D19 for the reset): a step appends to the trace, at most two events and at most one of them an
answer of the environment; a reset appends none and clears it. -/
def Obligations.OneEnvironmentReadPerStep : Prop :=
  ∀ s t : State, step s = .next t →
    (s.rstAsserted = false →
      ∃ evs, t.trace = s.trace ++ evs ∧ evs.length ≤ 2 ∧ evs.countP Event.isEnvRead ≤ 1) ∧
    (s.rstAsserted = true → t.trace = [])

/-- R32: no step, a reset among them, changes a constant of the configuration. -/
def Obligations.ConstantsNeverChange : Prop :=
  ∀ s t : State, step s = .next t → t.config = s.config

/-- R32 and R150: the engine does not read the renderer's threshold: two machines that differ in it alone take the
same steps. -/
def Obligations.ThresholdIsInvisibleToTheEngine : Prop :=
  ∀ (s : State) (x : Nat),
    (∀ t, step s = .next t → step (s.withThreshold x) = .next (t.withThreshold x)) ∧
    ∀ r, step s = .fault r → step (s.withThreshold x) = .fault r

/-- R134 and R178: the engine does nothing with a reading but store it: two states that agree on everything but
readings take the same step, stop alike, and agree again. -/
def Obligations.ReadingsDoNotSteerTheEngine : Prop :=
  ∀ s t : State, s.AgreeButReadings t →
    (∀ s', step s = .next s' → ∃ t', step t = .next t' ∧ s'.AgreeButReadings t') ∧
    ∀ r, step s = .fault r → step t = .fault r

/-! ### Under the named premises (R208), for pending and free answers alike -/

/-- R114 (decision D20) with R173: `TickMonotone` holds of every state; a wait ends exactly when `WaitSampled` holds
of the coming reads, at the first one in the window and not before; and where no read follows the one before by more
than `TICK_MOD - EXP_TICKS`, `WaitSampled` follows from `TickProgress`. -/
def Obligations.WaitEndsExactlyWhenSampled : Prop :=
  (∀ s : State, s.tickMonotone) ∧
  (∀ s : State, s.ExposureTimed → s.isAt .xwait → s.noResetPending = true →
    (s.waitSampled ↔ ∃ n t, run n s = .next t ∧ t.isAt .flip)) ∧
  (∀ (s : State) (n : Nat), s.ExposureTimed → s.isAt .xwait → s.noResetDuring n = true →
    (∀ k, k < n → (s.env.tickTimeAt k - s.env.markTime) % s.config.tickMod < s.config.expTicks) →
    (∃ t, run n s = .next t ∧ t.isAt .xwait) ∧
    (s.noResetDuring (n + 1) = true →
      s.config.expTicks ≤ (s.env.tickTimeAt n - s.env.markTime) % s.config.tickMod →
      ∃ t, run (n + 1) s = .next t ∧ t.isAt .flip ∧ t.phase = .awaitingExposure ∧
        t.env.time = s.env.tickTimeAt n)) ∧
  ∀ (c : Config) (t0 : Nat) (times : Nat → Nat), c.firstViolated = none → TickProgress times →
    (∀ k, times (k + 1) - times k ≤ c.tickMod - c.expTicks) → WaitSampled c t0 times

/-- R134 and R178 under `AdcInRange` (clause V6 of R11 is decision D5): a Capturing frame stores the next
`SAMPLE_COUNT` answers of the converter as they are, and what is left of the premise holds after it. -/
def Obligations.AnswersInRangeAreStoredWhole : Prop :=
  ∀ (s : State) (n : Nat), s.Sequenced → s.noResetDuring (5 * s.config.pixels + 2) = true → s.isAt .strbHi →
    s.phase = .capturing → s.adcInRangeFor (s.config.sampleCount + n) →
    ∃ t, run (5 * s.config.pixels + 2) s = .next t ∧ t.isAt .strbHi ∧
      t.fb = (List.range s.config.sampleCount).map s.env.adcAnswerAt ++ s.fb.drop s.config.sampleCount ∧
      (∀ v ∈ t.fb.take s.config.sampleCount, v ≤ s.config.adcMax) ∧
      t.adcInRangeFor n ∧ t.env.rst = s.env.rst.drop (5 * s.config.pixels + 2)
end

