-- ==== Sys2Proof/Laws/Constants.lean ====
section
/-! SUPPORT. The clauses of R11 as facts about a valid configuration, and the small lemmas of the window, its
count and the tick difference. -/

namespace Sys2Proof

namespace ValidConfig

variable (c : ValidConfig)

theorem meets (clause : Clause) : c.toConfig.meets clause = true := Config.firstViolated_eq_none.1 c.valid clause

theorem pixels_pos : 1 ≤ c.pixels := by simpa [Config.meets] using c.meets .v1
theorem winM_pos : 1 ≤ c.winM := by simpa [Config.meets] using c.meets .v2
theorem sampleCount_le : c.sampleCount ≤ c.lineWidth := by simpa [Config.meets] using c.meets .v3
theorem cue_le : c.cue ≤ c.pixels - 1 := by simpa [Config.meets] using c.meets .v4
theorem tick_clause : (1 ≤ c.ticksPerUs ∧ c.expTicks < c.tickMod) ∧ 2 ≤ c.tickMod := by
  simpa [Config.meets] using c.meets .v5
theorem expTicks_lt : c.expTicks < c.tickMod := c.tick_clause.1.2
theorem tickMod_pos : 0 < c.tickMod := Nat.lt_of_lt_of_le Nat.two_pos c.tick_clause.2
theorem adcMax_lt : c.adcMax < 2 ^ c.sampleW := by simpa [Config.meets] using c.meets .v6
theorem lineWidth_pos : 1 ≤ c.lineWidth := by simpa [Config.meets] using c.meets .v7

end ValidConfig

theorem Config.inWindow_iff (c : Config) (j : Nat) :
    c.inWindow j = true ↔ c.winN ≤ j ∧ j + c.winN ≤ c.pixels ∧ (j - c.winN) % c.winM = 0 := by
  simp [Config.inWindow, and_assoc]

@[simp] theorem Config.sampledBelow_zero (c : Config) : c.sampledBelow 0 = 0 := rfl

/-- One more index counts one more when it passes the window. -/
theorem Config.sampledBelow_succ (c : Config) (n : Nat) :
    c.sampledBelow (n + 1) = c.sampledBelow n + if c.inWindow n then 1 else 0 := by
  simp [Config.sampledBelow, List.range_succ]

theorem Config.sampledBelow_mono (c : Config) {m n : Nat} (h : m ≤ n) : c.sampledBelow m ≤ c.sampledBelow n := by
  induction n, h using Nat.le_induction with
  | base => exact le_rfl
  | succ n _ ih => rw [Config.sampledBelow_succ]; omega

/-- A window index leaves room in the count: the samples before it are fewer than all of them. -/
theorem Config.sampledBelow_lt_sampleCount (c : Config) {j : Nat} (hj : j < c.pixels) (hw : c.inWindow j = true) :
    c.sampledBelow j < c.sampleCount := by
  have h : c.sampledBelow (j + 1) ≤ c.sampleCount := c.sampledBelow_mono hj
  rw [Config.sampledBelow_succ, hw] at h
  simpa using h

/-- The difference lies in the counter's range (R112). -/
theorem Config.tsub_lt (c : Config) (h : 0 < c.tickMod) (a b : Nat) : c.tsub a b < c.tickMod := Nat.mod_lt _ h

end Sys2Proof
end

