-- ==== Sys2Proof/Laws/Decode.lean ====
section
/-! SUPPORT. The decoder and the encoder on one code at a time. -/

namespace Sys2Proof

/-- A code that decodes is the code of the operation it decodes to. -/
theorem encode_of_decode {op : StepCode} {i : Instr} (h : decode op = .ok i) : op = encode i := by
  revert h
  revert op
  cases i <;> decide

/-- A legal code is the code of some operation. -/
theorem exists_encode_of_le {op : StepCode} (h : op.toNat ≤ 8) : ∃ i, op = encode i := by
  have hall : ∀ op : StepCode, op.toNat ≤ 8 →
      op ∈ [Instr.strbHi, .clkHi, .strbLo, .xmark, .samp, .clkLo, .rend, .xwait, .flip].map encode := by decide
  obtain ⟨i, -, hi⟩ := List.mem_map.1 (hall op h)
  exact ⟨i, hi.symm⟩

/-- Different operations have different codes. -/
theorem encode_injective {i k : Instr} (h : encode i = encode k) : i = k := by
  revert h
  cases i <;> cases k <;> decide

@[simp] theorem encode_inj {i k : Instr} : encode i = encode k ↔ i = k :=
  ⟨encode_injective, fun h => h ▸ rfl⟩

@[simp] theorem encode_toNat_le (i : Instr) : (encode i).toNat ≤ 8 := by cases i <;> decide

/-- A reserved code is rejected with its own value (R77). -/
theorem decode_reserved {op : StepCode} (h : 9 ≤ op.toNat) : decode op = .error (.reservedStep op) := by
  revert h
  revert op
  decide

end Sys2Proof
end

