-- ==== Sys2Proof/Laws/State.lean ====
section
/-! SUPPORT. One lemma per field of `State` per named operation, true by definition, so that no proof unfolds
a record update. -/

namespace Sys2Proof.Machine

/-! `log` appends one event and changes nothing else. -/

@[simp] theorem State.log_stepCode (s : State) (e : Event) : (s.log e).stepCode = s.stepCode := rfl
@[simp] theorem State.log_j (s : State) (e : Event) : (s.log e).j = s.j := rfl
@[simp] theorem State.log_phase (s : State) (e : Event) : (s.log e).phase = s.phase := rfl
@[simp] theorem State.log_strobe (s : State) (e : Event) : (s.log e).strobe = s.strobe := rfl
@[simp] theorem State.log_clock (s : State) (e : Event) : (s.log e).clock = s.clock := rfl
@[simp] theorem State.log_expStart (s : State) (e : Event) : (s.log e).expStart = s.expStart := rfl
@[simp] theorem State.log_wrIdx (s : State) (e : Event) : (s.log e).wrIdx = s.wrIdx := rfl
@[simp] theorem State.log_fb (s : State) (e : Event) : (s.log e).fb = s.fb := rfl
@[simp] theorem State.log_trace (s : State) (e : Event) : (s.log e).trace = s.trace ++ [e] := rfl
@[simp] theorem State.log_env (s : State) (e : Event) : (s.log e).env = s.env := rfl
@[simp] theorem State.log_config (s : State) (e : Event) : (s.log e).config = s.config := rfl

/-! `goTo` writes `STEP` alone. -/

@[simp] theorem State.goTo_stepCode (s : State) (i : Instr) : (s.goTo i).stepCode = encode i := rfl
@[simp] theorem State.goTo_j (s : State) (i : Instr) : (s.goTo i).j = s.j := rfl
@[simp] theorem State.goTo_phase (s : State) (i : Instr) : (s.goTo i).phase = s.phase := rfl
@[simp] theorem State.goTo_strobe (s : State) (i : Instr) : (s.goTo i).strobe = s.strobe := rfl
@[simp] theorem State.goTo_clock (s : State) (i : Instr) : (s.goTo i).clock = s.clock := rfl
@[simp] theorem State.goTo_expStart (s : State) (i : Instr) : (s.goTo i).expStart = s.expStart := rfl
@[simp] theorem State.goTo_wrIdx (s : State) (i : Instr) : (s.goTo i).wrIdx = s.wrIdx := rfl
@[simp] theorem State.goTo_fb (s : State) (i : Instr) : (s.goTo i).fb = s.fb := rfl
@[simp] theorem State.goTo_trace (s : State) (i : Instr) : (s.goTo i).trace = s.trace := rfl
@[simp] theorem State.goTo_env (s : State) (i : Instr) : (s.goTo i).env = s.env := rfl
@[simp] theorem State.goTo_config (s : State) (i : Instr) : (s.goTo i).config = s.config := rfl

/-! `setStrobe` writes the pin and records it. -/

@[simp] theorem State.setStrobe_stepCode (s : State) (l : Level) : (s.setStrobe l).stepCode = s.stepCode := rfl
@[simp] theorem State.setStrobe_j (s : State) (l : Level) : (s.setStrobe l).j = s.j := rfl
@[simp] theorem State.setStrobe_phase (s : State) (l : Level) : (s.setStrobe l).phase = s.phase := rfl
@[simp] theorem State.setStrobe_strobe (s : State) (l : Level) : (s.setStrobe l).strobe = l := rfl
@[simp] theorem State.setStrobe_clock (s : State) (l : Level) : (s.setStrobe l).clock = s.clock := rfl
@[simp] theorem State.setStrobe_expStart (s : State) (l : Level) : (s.setStrobe l).expStart = s.expStart := rfl
@[simp] theorem State.setStrobe_wrIdx (s : State) (l : Level) : (s.setStrobe l).wrIdx = s.wrIdx := rfl
@[simp] theorem State.setStrobe_fb (s : State) (l : Level) : (s.setStrobe l).fb = s.fb := rfl
@[simp] theorem State.setStrobe_trace (s : State) (l : Level) : (s.setStrobe l).trace = s.trace ++ [.strobeSet l] := rfl
@[simp] theorem State.setStrobe_env (s : State) (l : Level) : (s.setStrobe l).env = s.env := rfl
@[simp] theorem State.setStrobe_config (s : State) (l : Level) : (s.setStrobe l).config = s.config := rfl

/-! `setClock` writes the pin and records it. -/

@[simp] theorem State.setClock_stepCode (s : State) (l : Level) : (s.setClock l).stepCode = s.stepCode := rfl
@[simp] theorem State.setClock_j (s : State) (l : Level) : (s.setClock l).j = s.j := rfl
@[simp] theorem State.setClock_phase (s : State) (l : Level) : (s.setClock l).phase = s.phase := rfl
@[simp] theorem State.setClock_strobe (s : State) (l : Level) : (s.setClock l).strobe = s.strobe := rfl
@[simp] theorem State.setClock_clock (s : State) (l : Level) : (s.setClock l).clock = l := rfl
@[simp] theorem State.setClock_expStart (s : State) (l : Level) : (s.setClock l).expStart = s.expStart := rfl
@[simp] theorem State.setClock_wrIdx (s : State) (l : Level) : (s.setClock l).wrIdx = s.wrIdx := rfl
@[simp] theorem State.setClock_fb (s : State) (l : Level) : (s.setClock l).fb = s.fb := rfl
@[simp] theorem State.setClock_trace (s : State) (l : Level) : (s.setClock l).trace = s.trace ++ [.clockSet l] := rfl
@[simp] theorem State.setClock_env (s : State) (l : Level) : (s.setClock l).env = s.env := rfl
@[simp] theorem State.setClock_config (s : State) (l : Level) : (s.setClock l).config = s.config := rfl

/-! `tickRead` advances the environment's time and records the value read. -/

@[simp] theorem State.tickRead_stepCode (s : State) : (s.tickRead).stepCode = s.stepCode := rfl
@[simp] theorem State.tickRead_j (s : State) : (s.tickRead).j = s.j := rfl
@[simp] theorem State.tickRead_phase (s : State) : (s.tickRead).phase = s.phase := rfl
@[simp] theorem State.tickRead_strobe (s : State) : (s.tickRead).strobe = s.strobe := rfl
@[simp] theorem State.tickRead_clock (s : State) : (s.tickRead).clock = s.clock := rfl
@[simp] theorem State.tickRead_expStart (s : State) : (s.tickRead).expStart = s.expStart := rfl
@[simp] theorem State.tickRead_wrIdx (s : State) : (s.tickRead).wrIdx = s.wrIdx := rfl
@[simp] theorem State.tickRead_fb (s : State) : (s.tickRead).fb = s.fb := rfl
@[simp] theorem State.tickRead_trace (s : State) : (s.tickRead).trace = s.trace ++ [.tickRead s.tickNow] := rfl
@[simp] theorem State.tickRead_config (s : State) : (s.tickRead).config = s.config := rfl

/-! `mark` is a tick read kept in `EXPSTART`. -/

@[simp] theorem State.mark_stepCode (s : State) : (s.mark).stepCode = s.stepCode := rfl
@[simp] theorem State.mark_j (s : State) : (s.mark).j = s.j := rfl
@[simp] theorem State.mark_phase (s : State) : (s.mark).phase = s.phase := rfl
@[simp] theorem State.mark_strobe (s : State) : (s.mark).strobe = s.strobe := rfl
@[simp] theorem State.mark_clock (s : State) : (s.mark).clock = s.clock := rfl
@[simp] theorem State.mark_expStart (s : State) : (s.mark).expStart = s.tickNow := rfl
@[simp] theorem State.mark_wrIdx (s : State) : (s.mark).wrIdx = s.wrIdx := rfl
@[simp] theorem State.mark_fb (s : State) : (s.mark).fb = s.fb := rfl
@[simp] theorem State.mark_trace (s : State) : (s.mark).trace = s.trace ++ [.tickRead s.tickNow] := rfl
@[simp] theorem State.mark_config (s : State) : (s.mark).config = s.config := rfl

/-! `adcRead` takes one answer and records it. -/

@[simp] theorem State.adcRead_stepCode (s : State) : (s.adcRead).stepCode = s.stepCode := rfl
@[simp] theorem State.adcRead_j (s : State) : (s.adcRead).j = s.j := rfl
@[simp] theorem State.adcRead_phase (s : State) : (s.adcRead).phase = s.phase := rfl
@[simp] theorem State.adcRead_strobe (s : State) : (s.adcRead).strobe = s.strobe := rfl
@[simp] theorem State.adcRead_clock (s : State) : (s.adcRead).clock = s.clock := rfl
@[simp] theorem State.adcRead_expStart (s : State) : (s.adcRead).expStart = s.expStart := rfl
@[simp] theorem State.adcRead_wrIdx (s : State) : (s.adcRead).wrIdx = s.wrIdx := rfl
@[simp] theorem State.adcRead_fb (s : State) : (s.adcRead).fb = s.fb := rfl
@[simp] theorem State.adcRead_trace (s : State) : (s.adcRead).trace = s.trace ++ [.adcRead s.j s.adcAnswer] := rfl
@[simp] theorem State.adcRead_config (s : State) : (s.adcRead).config = s.config := rfl

/-! `collect` stores one entry, advances the write index and records the write. -/

@[simp] theorem State.collect_stepCode (s : State) (v : Nat) : (s.collect v).stepCode = s.stepCode := rfl
@[simp] theorem State.collect_j (s : State) (v : Nat) : (s.collect v).j = s.j := rfl
@[simp] theorem State.collect_phase (s : State) (v : Nat) : (s.collect v).phase = s.phase := rfl
@[simp] theorem State.collect_strobe (s : State) (v : Nat) : (s.collect v).strobe = s.strobe := rfl
@[simp] theorem State.collect_clock (s : State) (v : Nat) : (s.collect v).clock = s.clock := rfl
@[simp] theorem State.collect_expStart (s : State) (v : Nat) : (s.collect v).expStart = s.expStart := rfl
@[simp] theorem State.collect_wrIdx (s : State) (v : Nat) : (s.collect v).wrIdx = s.wrIdx + 1 := rfl
@[simp] theorem State.collect_fb (s : State) (v : Nat) : (s.collect v).fb = s.fb.write s.wrIdx v := rfl
@[simp] theorem State.collect_trace (s : State) (v : Nat) : (s.collect v).trace = s.trace ++ [.fbWrite s.wrIdx v] := rfl
@[simp] theorem State.collect_env (s : State) (v : Nat) : (s.collect v).env = s.env := rfl
@[simp] theorem State.collect_config (s : State) (v : Nat) : (s.collect v).config = s.config := rfl

/-! `emitRender` records a copy of the frame buffer and changes nothing else. -/

@[simp] theorem State.emitRender_stepCode (s : State) : (s.emitRender).stepCode = s.stepCode := rfl
@[simp] theorem State.emitRender_j (s : State) : (s.emitRender).j = s.j := rfl
@[simp] theorem State.emitRender_phase (s : State) : (s.emitRender).phase = s.phase := rfl
@[simp] theorem State.emitRender_strobe (s : State) : (s.emitRender).strobe = s.strobe := rfl
@[simp] theorem State.emitRender_clock (s : State) : (s.emitRender).clock = s.clock := rfl
@[simp] theorem State.emitRender_expStart (s : State) : (s.emitRender).expStart = s.expStart := rfl
@[simp] theorem State.emitRender_wrIdx (s : State) : (s.emitRender).wrIdx = s.wrIdx := rfl
@[simp] theorem State.emitRender_fb (s : State) : (s.emitRender).fb = s.fb := rfl
@[simp] theorem State.emitRender_trace (s : State) : (s.emitRender).trace = s.trace ++ [.render s.fb] := rfl
@[simp] theorem State.emitRender_env (s : State) : (s.emitRender).env = s.env := rfl
@[simp] theorem State.emitRender_config (s : State) : (s.emitRender).config = s.config := rfl

/-! `rstTaken` takes one level off the pending levels of `rst`. -/

@[simp] theorem State.rstTaken_stepCode (s : State) : (s.rstTaken).stepCode = s.stepCode := rfl
@[simp] theorem State.rstTaken_j (s : State) : (s.rstTaken).j = s.j := rfl
@[simp] theorem State.rstTaken_phase (s : State) : (s.rstTaken).phase = s.phase := rfl
@[simp] theorem State.rstTaken_strobe (s : State) : (s.rstTaken).strobe = s.strobe := rfl
@[simp] theorem State.rstTaken_clock (s : State) : (s.rstTaken).clock = s.clock := rfl
@[simp] theorem State.rstTaken_expStart (s : State) : (s.rstTaken).expStart = s.expStart := rfl
@[simp] theorem State.rstTaken_wrIdx (s : State) : (s.rstTaken).wrIdx = s.wrIdx := rfl
@[simp] theorem State.rstTaken_fb (s : State) : (s.rstTaken).fb = s.fb := rfl
@[simp] theorem State.rstTaken_trace (s : State) : (s.rstTaken).trace = s.trace := rfl
@[simp] theorem State.rstTaken_config (s : State) : (s.rstTaken).config = s.config := rfl

/-! The environment after the operations that read it. -/

@[simp] theorem State.tickRead_env_rst (s : State) : (s.tickRead).env.rst = s.env.rst := rfl
@[simp] theorem State.tickRead_env_time (s : State) : (s.tickRead).env.time = s.tickTime := rfl
@[simp] theorem State.tickRead_env_tickAdvances (s : State) :
    (s.tickRead).env.tickAdvances = s.env.tickAdvances.tail := rfl
@[simp] theorem State.tickRead_env_tickDraws (s : State) :
    (s.tickRead).env.tickDraws = if s.env.tickAdvances.isEmpty then s.env.tickDraws + 1 else s.env.tickDraws := rfl
@[simp] theorem State.tickRead_env_adcAnswers (s : State) : (s.tickRead).env.adcAnswers = s.env.adcAnswers := rfl
@[simp] theorem State.tickRead_env_adcDraws (s : State) : (s.tickRead).env.adcDraws = s.env.adcDraws := rfl
@[simp] theorem State.tickRead_env_resetDraws (s : State) : (s.tickRead).env.resetDraws = s.env.resetDraws := rfl
@[simp] theorem State.tickRead_env_markTime (s : State) : (s.tickRead).env.markTime = s.env.markTime := rfl

@[simp] theorem State.mark_env_rst (s : State) : (s.mark).env.rst = s.env.rst := rfl
@[simp] theorem State.mark_env_time (s : State) : (s.mark).env.time = s.tickTime := rfl
@[simp] theorem State.mark_env_tickAdvances (s : State) : (s.mark).env.tickAdvances = s.env.tickAdvances.tail := rfl
@[simp] theorem State.mark_env_tickDraws (s : State) :
    (s.mark).env.tickDraws = if s.env.tickAdvances.isEmpty then s.env.tickDraws + 1 else s.env.tickDraws := rfl
@[simp] theorem State.mark_env_adcAnswers (s : State) : (s.mark).env.adcAnswers = s.env.adcAnswers := rfl
@[simp] theorem State.mark_env_adcDraws (s : State) : (s.mark).env.adcDraws = s.env.adcDraws := rfl
@[simp] theorem State.mark_env_resetDraws (s : State) : (s.mark).env.resetDraws = s.env.resetDraws := rfl
@[simp] theorem State.mark_env_markTime (s : State) : (s.mark).env.markTime = s.tickTime := rfl

@[simp] theorem State.adcRead_env_rst (s : State) : (s.adcRead).env.rst = s.env.rst := rfl
@[simp] theorem State.adcRead_env_time (s : State) : (s.adcRead).env.time = s.env.time := rfl
@[simp] theorem State.adcRead_env_tickAdvances (s : State) : (s.adcRead).env.tickAdvances = s.env.tickAdvances := rfl
@[simp] theorem State.adcRead_env_tickDraws (s : State) : (s.adcRead).env.tickDraws = s.env.tickDraws := rfl
@[simp] theorem State.adcRead_env_adcAnswers (s : State) : (s.adcRead).env.adcAnswers = s.env.adcAnswers.tail := rfl
@[simp] theorem State.adcRead_env_adcDraws (s : State) :
    (s.adcRead).env.adcDraws = if s.env.adcAnswers.isEmpty then s.env.adcDraws + 1 else s.env.adcDraws := rfl
@[simp] theorem State.adcRead_env_resetDraws (s : State) : (s.adcRead).env.resetDraws = s.env.resetDraws := rfl
@[simp] theorem State.adcRead_env_markTime (s : State) : (s.adcRead).env.markTime = s.env.markTime := rfl

@[simp] theorem State.rstTaken_env_rst (s : State) : (s.rstTaken).env.rst = s.env.rst.tail := rfl
@[simp] theorem State.rstTaken_env_time (s : State) : (s.rstTaken).env.time = s.env.time := rfl
@[simp] theorem State.rstTaken_env_tickAdvances (s : State) :
    (s.rstTaken).env.tickAdvances = s.env.tickAdvances := rfl
@[simp] theorem State.rstTaken_env_tickDraws (s : State) : (s.rstTaken).env.tickDraws = s.env.tickDraws := rfl
@[simp] theorem State.rstTaken_env_adcAnswers (s : State) : (s.rstTaken).env.adcAnswers = s.env.adcAnswers := rfl
@[simp] theorem State.rstTaken_env_adcDraws (s : State) : (s.rstTaken).env.adcDraws = s.env.adcDraws := rfl
@[simp] theorem State.rstTaken_env_resetDraws (s : State) : (s.rstTaken).env.resetDraws = s.env.resetDraws := rfl
@[simp] theorem State.rstTaken_env_markTime (s : State) : (s.rstTaken).env.markTime = s.env.markTime := rfl

/-! The reset state (R195). -/

@[simp] theorem State.resetWith_stepCode (c : ValidConfig) (e : Environment) : (State.resetWith c e).stepCode = encode .strbHi := rfl
@[simp] theorem State.resetWith_j (c : ValidConfig) (e : Environment) : (State.resetWith c e).j = 0 := rfl
@[simp] theorem State.resetWith_phase (c : ValidConfig) (e : Environment) : (State.resetWith c e).phase = .awaitingExposure := rfl
@[simp] theorem State.resetWith_strobe (c : ValidConfig) (e : Environment) : (State.resetWith c e).strobe = false := rfl
@[simp] theorem State.resetWith_clock (c : ValidConfig) (e : Environment) : (State.resetWith c e).clock = false := rfl
@[simp] theorem State.resetWith_wrIdx (c : ValidConfig) (e : Environment) : (State.resetWith c e).wrIdx = 0 := rfl
@[simp] theorem State.resetWith_trace (c : ValidConfig) (e : Environment) : (State.resetWith c e).trace = [] := rfl
@[simp] theorem State.resetWith_config (c : ValidConfig) (e : Environment) : (State.resetWith c e).config = c := rfl
@[simp] theorem State.resetWith_env_rst (c : ValidConfig) (e : Environment) :
    (State.resetWith c e).env.rst = e.rst := rfl
@[simp] theorem State.resetWith_env_time (c : ValidConfig) (e : Environment) :
    (State.resetWith c e).env.time = e.time := rfl
@[simp] theorem State.resetWith_env_tickAdvances (c : ValidConfig) (e : Environment) :
    (State.resetWith c e).env.tickAdvances = e.tickAdvances := rfl
@[simp] theorem State.resetWith_env_tickDraws (c : ValidConfig) (e : Environment) :
    (State.resetWith c e).env.tickDraws = e.tickDraws := rfl
@[simp] theorem State.resetWith_env_adcAnswers (c : ValidConfig) (e : Environment) :
    (State.resetWith c e).env.adcAnswers = e.adcAnswers := rfl
@[simp] theorem State.resetWith_env_adcDraws (c : ValidConfig) (e : Environment) :
    (State.resetWith c e).env.adcDraws = e.adcDraws := rfl
@[simp] theorem State.resetWith_env_resetDraws (c : ValidConfig) (e : Environment) :
    (State.resetWith c e).env.resetDraws = e.resetDraws + 1 := rfl
@[simp] theorem State.resetWith_env_markTime (c : ValidConfig) (e : Environment) :
    (State.resetWith c e).env.markTime = e.markTime := rfl

@[simp] theorem State.applyReset_eq (s : State) : s.applyReset = State.resetWith s.config s.env := rfl

/-! Operands read after an operation that does not touch what they read. -/

@[simp] theorem State.goTo_tickNow (s : State) (i : Instr) : (s.goTo i).tickNow = s.tickNow := rfl
@[simp] theorem State.rstTaken_tickNow (s : State) : s.rstTaken.tickNow = s.tickNow := rfl
@[simp] theorem State.rstTaken_tickTime (s : State) : s.rstTaken.tickTime = s.tickTime := rfl
@[simp] theorem State.rstTaken_adcAnswer (s : State) : s.rstTaken.adcAnswer = s.adcAnswer := rfl
@[simp] theorem State.rstTaken_sample (s : State) : s.rstTaken.sample = s.sample := rfl
@[simp] theorem State.rstTaken_firstPulse (s : State) : s.rstTaken.firstPulse = s.firstPulse := rfl
@[simp] theorem State.rstTaken_pulsesLeft (s : State) : s.rstTaken.pulsesLeft = s.pulsesLeft := rfl
@[simp] theorem State.rstTaken_markDue (s : State) : s.rstTaken.markDue = s.markDue := rfl
@[simp] theorem State.rstTaken_sampleDue (s : State) : s.rstTaken.sampleDue = s.sampleDue := rfl
@[simp] theorem State.rstTaken_bufferFull (s : State) : s.rstTaken.bufferFull = s.bufferFull := rfl
@[simp] theorem State.rstTaken_waitOver (s : State) : s.rstTaken.waitOver = s.waitOver := rfl

/-- With no level pending, taking one changes nothing. -/
theorem State.rstTaken_of_nil (s : State) (h : s.env.rst = []) : s.rstTaken = s := by
  cases s with
  | mk a b c d e f g i k env l => cases env; simp_all [State.rstTaken]

end Sys2Proof.Machine
end

