-- ==== Sys2Proof/Laws/Environment.lean ====
section
/-! SUPPORT. The coming answers of the environment: a read takes the first of them and leaves the others in their
order, whether they are pending or free; and the premises of R208 that follow. -/

namespace Sys2Proof.Machine

/-- The first coming answer is the pending one, or the free one at the draw counter. -/
theorem answerAt_zero (pending : List Nat) (free : Nat → Nat) (draws : Nat) :
    answerAt pending free draws 0 = pending.headD (free draws) := by
  cases pending <;> rfl

/-- After one answer is taken the `k`-th of the others is the one that was after it. -/
theorem answerAt_tail (pending : List Nat) (free : Nat → Nat) (draws k : Nat) :
    answerAt pending.tail free (if pending.isEmpty then draws + 1 else draws) k =
      answerAt pending free draws (k + 1) := by
  cases pending with
  | nil => simp [answerAt, Nat.add_comm, Nat.add_left_comm]
  | cons v vs => simp [answerAt]

/-- The unwrapped time of a read made now is that of the first coming read (R175). -/
theorem State.tickTime_eq_tickTimeAt_zero (s : State) : s.tickTime = s.env.tickTimeAt 0 := by
  simp only [State.tickTime, Environment.tickTimeAt, Environment.tickAdvanceAt, answerAt_zero]
  cases h : s.env.tickAdvances <;> simp [State.tickAdvance, h]

/-- The value read now is the first coming answer (R178). -/
theorem State.adcAnswer_eq_adcAnswerAt_zero (s : State) : s.adcAnswer = s.env.adcAnswerAt 0 := by
  simp only [Environment.adcAnswerAt, answerAt_zero]
  cases h : s.env.adcAnswers <;> simp [State.adcAnswer, h]

theorem State.tickRead_tickAdvanceAt (s : State) (k : Nat) :
    s.tickRead.env.tickAdvanceAt k = s.env.tickAdvanceAt (k + 1) :=
  answerAt_tail ..

/-- A tick read takes the first coming time and leaves the others. -/
theorem State.tickRead_tickTimeAt (s : State) (k : Nat) : s.tickRead.env.tickTimeAt k = s.env.tickTimeAt (k + 1) := by
  induction k with
  | zero =>
    show s.tickTime + s.tickRead.env.tickAdvanceAt 0 = s.env.tickTimeAt 0 + s.env.tickAdvanceAt 1
    rw [s.tickTime_eq_tickTimeAt_zero, s.tickRead_tickAdvanceAt]
  | succ k ih =>
    show s.tickRead.env.tickTimeAt k + s.tickRead.env.tickAdvanceAt (k + 1) =
      s.env.tickTimeAt (k + 1) + s.env.tickAdvanceAt (k + 2)
    rw [ih, s.tickRead_tickAdvanceAt]

/-- A converter read takes the first coming answer and leaves the others. -/
theorem State.adcRead_adcAnswerAt (s : State) (k : Nat) :
    s.adcRead.env.adcAnswerAt k = s.env.adcAnswerAt (k + 1) :=
  answerAt_tail ..

/-- The coming tick reads are those of the same time, pending advances and draw counter. -/
theorem Environment.tickTimeAt_congr {e f : Environment} (ht : e.time = f.time) (ha : e.tickAdvances = f.tickAdvances)
    (hd : e.tickDraws = f.tickDraws) (k : Nat) : e.tickTimeAt k = f.tickTimeAt k := by
  induction k with
  | zero => simp [Environment.tickTimeAt, Environment.tickAdvanceAt, ht, ha, hd]
  | succ k ih => simp [Environment.tickTimeAt, Environment.tickAdvanceAt, ih, ha, hd]

/-- The coming converter answers are those of the same pending answers and draw counter. -/
theorem Environment.adcAnswerAt_congr {e f : Environment} (ha : e.adcAnswers = f.adcAnswers)
    (hd : e.adcDraws = f.adcDraws) (k : Nat) : e.adcAnswerAt k = f.adcAnswerAt k := by
  simp [Environment.adcAnswerAt, ha, hd]

@[simp] theorem State.rstTaken_tickTimeAt (s : State) (k : Nat) : s.rstTaken.env.tickTimeAt k = s.env.tickTimeAt k :=
  Environment.tickTimeAt_congr (e := s.rstTaken.env) (f := s.env) rfl rfl rfl k

@[simp] theorem State.rstTaken_adcAnswerAt (s : State) (k : Nat) :
    s.rstTaken.env.adcAnswerAt k = s.env.adcAnswerAt k :=
  Environment.adcAnswerAt_congr (e := s.rstTaken.env) (f := s.env) rfl rfl k

theorem State.adcInRangeFor_mono {s : State} {m n : Nat} (h : s.adcInRangeFor n) (hmn : m ≤ n) :
    s.adcInRangeFor m := fun k hk => h k (Nat.lt_of_lt_of_le hk hmn)

/-- What is left of the premise after one converter read. -/
theorem State.adcRead_adcInRangeFor {s : State} {n : Nat} (h : s.adcInRangeFor (n + 1)) :
    s.adcRead.adcInRangeFor n := fun k hk => by
  rw [s.adcRead_adcAnswerAt]
  exact h (k + 1) (Nat.succ_lt_succ hk)

/-- An answer in range fits an entry, so it is stored as it is (R11 clause V6, R134). -/
theorem State.sample_eq_adcAnswerAt_zero {s : State} (h : s.adcInRangeFor 1) : s.sample = s.env.adcAnswerAt 0 := by
  rw [State.sample, s.adcAnswer_eq_adcAnswerAt_zero]
  exact Nat.mod_eq_of_lt (Nat.lt_of_le_of_lt (h 0 Nat.zero_lt_one) s.config.adcMax_lt)

end Sys2Proof.Machine
end

