-- ==== Sys2Proof/Laws/Flags.lean ====
section
/-! SUPPORT. What each comparison of an operation says, so that no proof unfolds one. -/

namespace Sys2Proof.Machine

variable (s : State)

theorem State.firstPulse_iff : s.firstPulse = true ↔ s.j = 0 := by simp [State.firstPulse]

theorem State.pulsesLeft_iff : s.pulsesLeft = true ↔ s.j < s.config.pixels - 1 := by simp [State.pulsesLeft]

theorem State.markDue_iff : s.markDue = true ↔ s.phase = .awaitingExposure ∧ s.j = s.config.cue := by
  simp [State.markDue]

theorem State.sampleDue_iff : s.sampleDue = true ↔ s.phase = .capturing ∧ s.config.inWindow s.j = true := by
  simp [State.sampleDue]

theorem State.bufferFull_iff : s.bufferFull = true ↔ s.config.lineWidth ≤ s.wrIdx := by simp [State.bufferFull]

theorem State.waitOver_iff :
    s.waitOver = true ↔ s.config.expTicks ≤ s.config.tsub s.tickNow s.expStart := by simp [State.waitOver]

@[simp] theorem Phase.flip_flip (p : Phase) : p.flip.flip = p := by cases p <;> rfl

theorem Phase.flip_ne (p : Phase) : p.flip ≠ p := by cases p <;> simp [Phase.flip]

theorem Phase.eq_capturing_iff (p : Phase) : p = .capturing ↔ p ≠ .awaitingExposure := by cases p <;> simp

end Sys2Proof.Machine
end

