-- ==== Sys2Proof/Laws/Frame.lean ====
section
/-! SUPPORT. Where a frame stands, one operation at a time: the fetched operation, `pixelsDone`, `inCapture`
and the pins due, without unfolding the decoder. -/

namespace Sys2Proof.Machine

@[simp] theorem decode_encode_ok (i : Instr) : decode (encode i) = .ok i := by cases i <;> rfl

variable {s : State} {i : Instr}

theorem State.fetch_of_isAt (h : s.isAt i) : s.fetch = .ok i := by
  have h' : s.stepCode = encode i := h
  simp [State.fetch, h']

/-- Only one operation is selected. -/
theorem State.isAt_iff_of_isAt (h : s.isAt i) (k : Instr) : s.isAt k ↔ i = k := by
  have h' : s.stepCode = encode i := h
  simp [State.isAt, h']

theorem State.exists_isAt (h : s.Sequenced) : ∃ i, s.isAt i := exists_encode_of_le h.code_legal

theorem State.inCapture_of_ne (h : s.isAt i) (hi : i ≠ .strbHi) : s.inCapture = (s.phase == .capturing) := by
  have h' : s.stepCode = encode i := h
  simp [State.inCapture, State.isAt, h', hi]

theorem State.pixelsDone_of_isAt (h : s.isAt i) : s.pixelsDone = pixelsDoneAt s.config.pixels s.j i := by
  rw [State.pixelsDone, State.fetch_of_isAt h]

theorem State.pinsDue_of_isAt (h : s.isAt i) : s.pinsDue = pinsDueAt s.config.pixels s.j i := by
  rw [State.pinsDue, State.fetch_of_isAt h]

end Sys2Proof.Machine
end

