-- ==== Sys2Proof/Laws/Memory.lean ====
section
/-! SUPPORT. The frame buffer's read and write: read after write, and that every operation keeps the
canonical form. -/

namespace Sys2Proof.Machine

theorem Memory.wf_iff (c : Config) (m : Memory) :
    Memory.wf c m = true ↔ m.length = c.lineWidth ∧ ∀ v ∈ m, v < 2 ^ c.sampleW := by
  simp [Memory.wf]

/-- A write of a value that fits an entry keeps the form, wherever it goes. -/
theorem Memory.write_wf {c : Config} {m : Memory} (h : Memory.wf c m = true) (k : Nat) {v : Nat}
    (hv : v < 2 ^ c.sampleW) : Memory.wf c (m.write k v) = true := by
  rw [Memory.wf_iff] at h ⊢
  refine ⟨by simpa [Memory.write] using h.1, fun x hx => ?_⟩
  rcases List.mem_or_eq_of_mem_set hx with hx | rfl
  · exact h.2 x hx
  · exact hv

@[simp] theorem Memory.read_write_same (m : Memory) (k v : Nat) (h : k < m.length) :
    (m.write k v).read k = some v := by
  simp [Memory.read, Memory.write, h]

@[simp] theorem Memory.read_write_other (m : Memory) {k a : Nat} (v : Nat) (h : a ≠ k) :
    (m.write k v).read a = m.read a := by
  simp [Memory.read, Memory.write, List.getElem?_set_ne (Ne.symm h)]

@[simp] theorem Memory.write_length (m : Memory) (k v : Nat) : (m.write k v).length = m.length := by
  simp [Memory.write]

/-- The entry `SAMP` stores fits (R131). -/
theorem State.sample_lt (s : State) : s.sample < 2 ^ s.config.sampleW :=
  Nat.mod_lt _ (Nat.two_pow_pos _)

/-- The memory a reset leaves is in the form, whatever the free values are (R35, R195). -/
theorem State.resetWith_fb_wf (c : ValidConfig) (e : Environment) :
    Memory.wf c.toConfig (State.resetWith c e).fb = true := by
  rw [Memory.wf_iff]
  refine ⟨by simp [State.resetWith], fun v hv => ?_⟩
  obtain ⟨k, -, rfl⟩ := List.mem_map.1 hv
  exact Nat.mod_lt _ (Nat.two_pow_pos _)

/-- The exposure-start register a reset leaves is in its range (R24, R195). -/
theorem State.resetWith_expStart_lt (c : ValidConfig) (e : Environment) (h : 0 < c.tickMod) :
    (State.resetWith c e).expStart < c.tickMod :=
  Nat.mod_lt _ h

end Sys2Proof.Machine
end

