-- ==== Sys2Proof/Laws/PerInstr.lean ====
section
/-! SUPPORT. The family `RoundTrip`: what holds of every operation as syntax, one lemma per constructor. -/

namespace Sys2Proof.Laws.RoundTrip

/-- An operation is well formed, its code is one of `0 .. 8`, and its code decodes to it (R71, R72). -/
def Statement (i : Instr) : Prop :=
  i.wellFormed = true ∧ (encode i).toNat ≤ 8 ∧ decode (encode i) = .ok i

theorem strbHi : Statement .strbHi := ⟨rfl, by decide, rfl⟩
theorem clkHi : Statement .clkHi := ⟨rfl, by decide, rfl⟩
theorem strbLo : Statement .strbLo := ⟨rfl, by decide, rfl⟩
theorem xmark : Statement .xmark := ⟨rfl, by decide, rfl⟩
theorem samp : Statement .samp := ⟨rfl, by decide, rfl⟩
theorem clkLo : Statement .clkLo := ⟨rfl, by decide, rfl⟩
theorem rend : Statement .rend := ⟨rfl, by decide, rfl⟩
theorem xwait : Statement .xwait := ⟨rfl, by decide, rfl⟩
theorem flip : Statement .flip := ⟨rfl, by decide, rfl⟩

end Sys2Proof.Laws.RoundTrip
end

