-- ==== Sys2Proof/Laws/Step.lean ====
section
/-! SUPPORT. Inversion of a step and of each meaning: everything that can have happened when one answers a
next state. Proofs cite these and unfold neither `step` nor a meaning. -/

namespace Sys2Proof.Machine

/-- A step that answers a next state was a reset, or ran the operation its step code names. -/
theorem step_cases {s t : State} (h : step s = .next t) :
    (s.rstAsserted = true ∧ t = State.resetWith s.config s.rstTaken.env) ∨
      (s.rstAsserted = false ∧ ∃ i, s.stepCode = encode i ∧ exec i s.rstTaken = .next t) := by
  unfold step at h
  split at h
  · next hr => exact .inl ⟨hr, by simpa using h.symm⟩
  · next hr =>
    refine .inr ⟨by simpa using hr, ?_⟩
    unfold stepReleased State.fetch at h
    split at h
    · next i hi => exact ⟨i, by simpa using encode_of_decode hi, h⟩
    · exact absurd h (by simp)

variable {s t : State}

theorem exec_strbHi_next (h : exec .strbHi s = .next t) :
    t = State.goTo { s.setStrobe true with j := 0, wrIdx := 0 } .clkHi := by
  simpa [exec, execStrbHi] using h.symm

theorem exec_clkHi_next (h : exec .clkHi s = .next t) : t = (s.setClock true).goTo .strbLo := by
  simpa [exec, execClkHi] using h.symm

theorem exec_strbLo_next (h : exec .strbLo s = .next t) :
    (s.j = 0 ∧ t = (s.setStrobe false).goTo .xmark) ∨ (s.j ≠ 0 ∧ t = s.goTo .xmark) := by
  by_cases hj : s.j = 0
  · exact .inl ⟨hj, by simpa [exec, execStrbLo, State.firstPulse, hj] using h.symm⟩
  · exact .inr ⟨hj, by simpa [exec, execStrbLo, State.firstPulse, hj] using h.symm⟩

theorem exec_xmark_next (h : exec .xmark s = .next t) :
    (s.phase = .awaitingExposure ∧ s.j = s.config.cue ∧ t = s.mark.goTo .samp) ∨
      (¬ (s.phase = .awaitingExposure ∧ s.j = s.config.cue) ∧ t = s.goTo .samp) := by
  by_cases hd : s.phase = .awaitingExposure ∧ s.j = s.config.cue
  · exact .inl ⟨hd.1, hd.2, by simpa [exec, execXmark, State.markDue, hd.1, hd.2] using h.symm⟩
  · refine .inr ⟨hd, ?_⟩
    have hm : s.markDue = false := by
      rw [not_and_or] at hd
      rcases hd with hd | hd <;> simp [State.markDue, hd]
    simpa [exec, execXmark, hm] using h.symm

theorem exec_samp_next (h : exec .samp s = .next t) :
    (s.phase = .capturing ∧ s.config.inWindow s.j = true ∧ s.wrIdx < s.config.lineWidth ∧
        t = (s.adcRead.collect s.sample).goTo .clkLo) ∨
      (¬ (s.phase = .capturing ∧ s.config.inWindow s.j = true) ∧ t = s.goTo .clkLo) := by
  simp only [exec, execSamp] at h
  split at h
  · next hd =>
    have hd' : s.phase = .capturing ∧ s.config.inWindow s.j = true := by simpa [State.sampleDue] using hd
    split at h
    · exact absurd h (by simp)
    · next hf =>
      exact .inl ⟨hd'.1, hd'.2, by simpa [State.bufferFull] using hf, by simpa using h.symm⟩
  · next hd => exact .inr ⟨by simpa [State.sampleDue] using hd, by simpa using h.symm⟩

theorem exec_clkLo_next (h : exec .clkLo s = .next t) :
    (s.j < s.config.pixels - 1 ∧ t = State.goTo { s.setClock false with j := s.j + 1 } .clkHi) ∨
      (¬ s.j < s.config.pixels - 1 ∧ s.phase = .awaitingExposure ∧ t = (s.setClock false).goTo .rend) ∨
      (¬ s.j < s.config.pixels - 1 ∧ s.phase = .capturing ∧ t = (s.setClock false).goTo .flip) := by
  by_cases hj : s.j < s.config.pixels - 1
  · exact .inl ⟨hj, by simpa [exec, execClkLo, State.pulsesLeft, hj] using h.symm⟩
  · cases hp : s.phase with
    | awaitingExposure =>
      exact .inr (.inl ⟨hj, rfl, by simpa [exec, execClkLo, State.pulsesLeft, hj, hp] using h.symm⟩)
    | capturing =>
      exact .inr (.inr ⟨hj, rfl, by simpa [exec, execClkLo, State.pulsesLeft, hj, hp] using h.symm⟩)

theorem exec_rend_next (h : exec .rend s = .next t) : t = s.emitRender.goTo .xwait := by
  simpa [exec, execRend] using h.symm

theorem exec_xwait_next (h : exec .xwait s = .next t) :
    (s.config.expTicks ≤ s.config.tsub s.tickNow s.expStart ∧ t = s.tickRead.goTo .flip) ∨
      (¬ s.config.expTicks ≤ s.config.tsub s.tickNow s.expStart ∧ t = s.tickRead.goTo .xwait) := by
  by_cases hw : s.config.expTicks ≤ s.config.tsub s.tickNow s.expStart
  · exact .inl ⟨hw, by simpa [exec, execXwait, State.waitOver, hw] using h.symm⟩
  · exact .inr ⟨hw, by simpa [exec, execXwait, State.waitOver, hw] using h.symm⟩

theorem exec_flip_next (h : exec .flip s = .next t) :
    t = State.goTo { s with phase := s.phase.flip } .strbHi := by
  simpa [exec, execFlip] using h.symm

end Sys2Proof.Machine
end

