-- ==== Sys2Proof/Laws/Run.lean ====
section
/-! SUPPORT. Runs of steps: how they compose, what they do to the pending levels of `rst`, and how a run across a
reset is split at the reset (R208). -/

namespace Sys2Proof.Machine

variable {s t : State}

@[simp] theorem run_zero (s : State) : run 0 s = .next s := rfl

/-- One step of a run that goes on. -/
theorem run_succ_of_step (h : step s = .next t) (n : Nat) : run (n + 1) s = run n t := by
  simp [run, h]

/-- A run goes on from where its first part ends. -/
theorem run_add {m : Nat} (h : run m s = .next t) (n : Nat) : run (m + n) s = run n t := by
  induction m generalizing s with
  | zero =>
    rw [run_zero] at h
    cases h
    rw [Nat.zero_add]
  | succ m ih =>
    rw [Nat.succ_add]
    cases hs : step s with
    | next u =>
      rw [run_succ_of_step hs] at h ⊢
      exact ih h
    | fault r => simp [run, hs] at h
    | refused r => simp [run, hs] at h

/-- No meaning touches the pending levels of `rst`. -/
theorem exec_rst {i : Instr} (h : exec i s = .next t) : t.env.rst = s.env.rst := by
  cases i with
  | strbHi => rw [exec_strbHi_next h]; rfl
  | clkHi => rw [exec_clkHi_next h]; rfl
  | strbLo => rcases exec_strbLo_next h with ⟨_, rfl⟩ | ⟨_, rfl⟩ <;> rfl
  | xmark => rcases exec_xmark_next h with ⟨_, _, rfl⟩ | ⟨_, rfl⟩ <;> rfl
  | samp => rcases exec_samp_next h with ⟨_, _, _, rfl⟩ | ⟨_, rfl⟩ <;> rfl
  | clkLo => rcases exec_clkLo_next h with ⟨_, rfl⟩ | ⟨_, _, rfl⟩ | ⟨_, _, rfl⟩ <;> rfl
  | rend => rw [exec_rend_next h]; rfl
  | xwait => rcases exec_xwait_next h with ⟨_, rfl⟩ | ⟨_, rfl⟩ <;> rfl
  | flip => rw [exec_flip_next h]; rfl

/-- A step that answers a next state, a reset among them, uses up one level of `rst`. -/
theorem step_rst (h : step s = .next t) : t.env.rst = s.env.rst.tail := by
  rcases step_cases h with ⟨_, rfl⟩ | ⟨_, i, _, he⟩
  · rfl
  · exact exec_rst he

/-- A run of `n` steps uses up `n` levels of `rst`. -/
theorem run_rst {n : Nat} (h : run n s = .next t) : t.env.rst = s.env.rst.drop n := by
  induction n generalizing s with
  | zero =>
    rw [run_zero] at h
    cases h
    rfl
  | succ n ih =>
    cases hs : step s with
    | next u =>
      rw [run_succ_of_step hs] at h
      rw [ih h, step_rst hs, List.drop_tail]
    | fault r => simp [run, hs] at h
    | refused r => simp [run, hs] at h

/-- A run across a reset splits there: the level of `rst` after the first `n` steps is asserted, so the next step
is the reset of the state they end in (R168, R208). -/
theorem run_at_reset {n : Nat} (h : run n s = .next t) (hr : s.env.rst[n]? = some true) :
    run (n + 1) s = .next t.rstTaken.applyReset := by
  have ha : t.rstAsserted = true := by
    simp [State.rstAsserted, run_rst h, List.head?_drop, hr]
  rw [run_add h 1]
  simp [run, step, ha]

/-! ### The premise `NoResetDuring` -/

@[simp] theorem noResetDuring_zero (s : State) : s.noResetDuring 0 = true := by simp [State.noResetDuring]

/-- A run without a reset begins with a step that is none, and goes on as one. -/
theorem noResetDuring_succ (s : State) (n : Nat) :
    s.noResetDuring (n + 1) = true ↔ s.rstAsserted = false ∧ s.rstTaken.noResetDuring n = true := by
  unfold State.noResetDuring State.rstAsserted State.rstTaken
  cases h : s.env.rst with
  | nil => simp
  | cons level rest => cases level <;> simp

/-- What is left of the premise after one step. -/
theorem noResetDuring_of_step {n : Nat} (h : s.noResetDuring (n + 1) = true) (hs : step s = .next t) :
    t.noResetDuring n = true := by
  have hn := ((noResetDuring_succ s n).1 h).2
  have he : t.env.rst = s.rstTaken.env.rst := step_rst hs
  unfold State.noResetDuring at hn ⊢
  rw [he]
  exact hn

theorem noResetDuring_mono {m n : Nat} (h : s.noResetDuring n = true) (hmn : m ≤ n) : s.noResetDuring m = true := by
  simp only [State.noResetDuring, List.all_eq_true] at h ⊢
  exact fun level hl => h level (List.take_subset_take_left s.env.rst hmn hl)

/-- No pending level is asserted exactly when no run, of whatever length, has a reset. -/
theorem noResetPending_iff (s : State) : s.noResetPending = true ↔ ∀ n, s.noResetDuring n = true := by
  constructor
  · intro h n
    simp only [State.noResetPending, State.noResetDuring, List.all_eq_true] at h ⊢
    exact fun level hl => h level (List.mem_of_mem_take hl)
  · intro h
    simpa [State.noResetPending, State.noResetDuring] using h s.env.rst.length

end Sys2Proof.Machine
end

