-- ==== Sys2Proof/Laws/Trace.lean ====
section
/-! SUPPORT. The current frame's part of the trace, one event at a time. -/

namespace Sys2Proof.Machine

@[simp] theorem currentFrame_nil : currentFrame [] = [] := rfl

/-- A Strobe rise begins a new frame; every other event joins the frame in progress. -/
theorem currentFrame_append (tr : List Event) (e : Event) :
    currentFrame (tr ++ [e]) = if e = .strobeSet true then [e] else currentFrame tr ++ [e] := by
  simp [currentFrame, List.foldl_append]

@[simp] theorem currentFrame_strobe_rise (tr : List Event) :
    currentFrame (tr ++ [.strobeSet true]) = [.strobeSet true] := by
  simp [currentFrame_append]

@[simp] theorem currentFrame_strobe_fall (tr : List Event) :
    currentFrame (tr ++ [.strobeSet false]) = currentFrame tr ++ [.strobeSet false] := by
  simp [currentFrame_append]

@[simp] theorem currentFrame_clock (tr : List Event) (l : Level) :
    currentFrame (tr ++ [.clockSet l]) = currentFrame tr ++ [.clockSet l] := by
  simp [currentFrame_append]

@[simp] theorem currentFrame_tick (tr : List Event) (v : Nat) :
    currentFrame (tr ++ [.tickRead v]) = currentFrame tr ++ [.tickRead v] := by
  simp [currentFrame_append]

@[simp] theorem currentFrame_adc (tr : List Event) (j v : Nat) :
    currentFrame (tr ++ [.adcRead j v]) = currentFrame tr ++ [.adcRead j v] := by
  simp [currentFrame_append]

@[simp] theorem currentFrame_fbWrite (tr : List Event) (k v : Nat) :
    currentFrame (tr ++ [.fbWrite k v]) = currentFrame tr ++ [.fbWrite k v] := by
  simp [currentFrame_append]

@[simp] theorem currentFrame_render (tr : List Event) (buf : List Nat) :
    currentFrame (tr ++ [.render buf]) = currentFrame tr ++ [.render buf] := by
  simp [currentFrame_append]

/-- The two events of a sample join the frame together. -/
@[simp] theorem currentFrame_sample (tr : List Event) (j v k w : Nat) :
    currentFrame (tr ++ [.adcRead j v, .fbWrite k w]) = currentFrame tr ++ [.adcRead j v, .fbWrite k w] := by
  simp [currentFrame, List.foldl_append]

@[simp] theorem strobeFall_zero : strobeFall 0 = [.strobeSet false] := rfl

theorem strobeFall_of_ne {j : Nat} (h : j ≠ 0) : strobeFall j = [] := by simp [strobeFall, h]

theorem scanPins_succ (n : Nat) : scanPins (n + 1) = scanPins n ++ pulsePins n := by
  simp [scanPins, List.range_succ]

/-- The readings of a frame grow by one pair of events at a time (R135). -/
theorem samplingOf_append (c : Config) (vs : List Nat) (v : Nat) :
    samplingOf c (vs ++ [v]) =
      samplingOf c vs ++ [.adcRead (c.winN + vs.length * c.winM) v, .fbWrite vs.length (v % 2 ^ c.sampleW)] := by
  simp [samplingOf, List.zipIdx_append]

end Sys2Proof.Machine
end

