-- ==== Sys2Proof/Tests/Slice0.lean ====
section
/-! SUPPORT. The model's own tests: the checks of WellFormed on ill-formed terms, the step codes written out bit by
bit, single steps from the vectors X1 to X35 of spec/95_test_vectors.md, and for every statement with hypotheses a
concrete state that meets them. Every expected value is the spec's. -/

namespace Sys2Proof.Tests

open Sys2Proof Sys2Proof.Machine

/-! ### Configurations and a state builder -/

/-- The fields of the configuration `HW` of 95_test_vectors.md, with its suggested tick values. -/
def hwFields : Config where
  pixels := 128
  cue := 18
  winN := 34
  winM := 3
  threshold := 2500
  exposureUs := 300000
  lineWidth := 21
  adcMax := 4094
  ticksPerUs := 80
  tickMod := 4294967296
  sampleW := 12

/-- The fields of the configuration `T1` of 95_test_vectors.md. -/
def t1Fields : Config where
  pixels := 8
  cue := 2
  winN := 2
  winM := 2
  threshold := 2500
  exposureUs := 10
  lineWidth := 3
  adcMax := 4094
  ticksPerUs := 2
  tickMod := 256
  sampleW := 12

def hwTest : ValidConfig := ⟨hwFields, by decide⟩
def t1 : ValidConfig := ⟨t1Fields, by decide⟩

/-- An environment with nothing pending. -/
def quiet : Environment where
  rst := []
  time := 0
  tickAdvances := []
  tickDraws := 0
  adcAnswers := []
  adcDraws := 0
  resetDraws := 0
  markTime := 0

/-- A small state at the operation `i`; the tests change the fields they need. -/
def stateAt (c : ValidConfig) (i : Instr) : State where
  stepCode := encode i
  j := 0
  phase := .awaitingExposure
  strobe := false
  clock := false
  expStart := 0
  wrIdx := 0
  fb := List.replicate c.lineWidth 0
  trace := []
  env := quiet
  config := c

/-- The same state in another environment. -/
def under (s : State) (e : Environment) : State := { s with env := e }

/-- The next state, where there is one. -/
def nextOf : Host.Outcome State Fault Refusal → Option State
  | .next t => some t
  | .fault _ => none
  | .refused _ => none

/-! ### WellFormed: each clause of R11 refuses an ill-formed configuration (95_test_vectors.md section 2.1)

An operation has no operand to be ill-formed in (R74, R78); a number that is no operation is refused by the
decoder, below. -/

theorem test_config_valid : hwFields.wellFormed = true ∧ t1Fields.wellFormed = true ∧
    Config.wellFormed { hwFields with cue := 127 } = true ∧
    Config.wellFormed { hwFields with tickMod := 24000001 } = true := by decide
theorem test_config_v1 : Config.wellFormed { hwFields with pixels := 0 } = false ∧
    Config.firstViolated { hwFields with pixels := 0 } = some .v1 := by decide
theorem test_config_v2 : Config.wellFormed { hwFields with winM := 0 } = false ∧
    Config.firstViolated { hwFields with winM := 0 } = some .v2 := by decide
theorem test_config_v3 : Config.wellFormed { hwFields with winM := 2 } = false ∧
    Config.firstViolated { hwFields with winM := 2 } = some .v3 := by decide
theorem test_config_v4 : Config.wellFormed { hwFields with cue := 128 } = false ∧
    Config.firstViolated { hwFields with cue := 128 } = some .v4 := by decide
theorem test_config_v5 : Config.firstViolated { hwFields with tickMod := 16777216 } = some .v5 ∧
    Config.firstViolated { hwFields with ticksPerUs := 0 } = some .v5 := by decide
theorem test_config_v6 : Config.wellFormed { hwFields with sampleW := 11 } = false ∧
    Config.firstViolated { hwFields with sampleW := 11 } = some .v6 := by decide
theorem test_config_v7 : Config.wellFormed { hwFields with winN := 65, lineWidth := 0 } = false ∧
    Config.firstViolated { hwFields with winN := 65, lineWidth := 0 } = some .v7 := by decide
theorem test_invalid_config_refused :
    instantiate { hwFields with winM := 2 } quiet = .refused (.invalidConfig .v3) := rfl

/-! ### Decoding: the patterns of R72, bit by bit, most significant bit first -/

theorem test_decode_patterns :
    decode 0b0000#4 = .ok .strbHi ∧ decode 0b0001#4 = .ok .clkHi ∧ decode 0b0010#4 = .ok .strbLo ∧
    decode 0b0011#4 = .ok .xmark ∧ decode 0b0100#4 = .ok .samp ∧ decode 0b0101#4 = .ok .clkLo ∧
    decode 0b0110#4 = .ok .rend ∧ decode 0b0111#4 = .ok .xwait ∧ decode 0b1000#4 = .ok .flip :=
  ⟨rfl, rfl, rfl, rfl, rfl, rfl, rfl, rfl, rfl⟩
theorem test_decode_reserved :
    decode 0b1001#4 = .error (.reservedStep 9#4) ∧ decode 0b1111#4 = .error (.reservedStep 15#4) ∧
    decodeWord 16 = .error (.notOneStep 16) := ⟨rfl, rfl, rfl⟩
theorem test_decode_table_words :
    [0, 1, 2, 3, 4, 5, 6, 7, 8].map (decodeTableWord 4) =
      [some Instr.strbHi, some .clkHi, some .strbLo, some .xmark, some .samp, some .clkLo, some .rend, some .xwait,
        some .flip] ∧
    [9, 15, 16, 256].map (decodeTableWord 4) = [none, none, none, none] := by decide
theorem test_fetched_word_runs :
    (State.withFetchWord { stateAt hwTest .samp with env := { quiet with rst := [true] } } 4 8).fetch.toOption =
      some .flip ∧
    (nextOf (step (State.withFetchWord { stateAt hwTest .samp with env := { quiet with rst := [true] } } 4 8))).map
      (fun t => (t.phase, t.stepCode)) = some (.capturing, encode .strbHi) := by decide

/-! ### Arithmetic: the tables of 95_test_vectors.md -/

/-- Section 2.1. -/
theorem test_sample_counts :
    hwFields.sampleCount = 21 ∧ Config.sampleCount { hwFields with winM := 4 } = 16 ∧
    Config.sampleCount { hwFields with winN := 33 } = 21 ∧ Config.sampleCount { hwFields with winN := 35 } = 20 ∧
    Config.sampleCount { hwFields with winN := 0, winM := 7 } = 19 ∧
    Config.sampleCount { hwFields with winN := 64 } = 1 ∧ Config.sampleCount { hwFields with winN := 65 } = 0 ∧
    t1Fields.sampleCount = 3 := by decide
/-- Section 2.4, the edges of the window. -/
theorem test_window_edges :
    [33, 34, 35, 36, 93, 94, 95, 97, 127, 0].map hwFields.inWindow =
      [false, true, false, false, false, true, false, false, false, false] := by decide
/-- Section 2.3, `TICK_MOD = 2^32`, 256 and 100. -/
theorem test_tick_differences :
    hwFields.tsub 24001000 1000 = 24000000 ∧ hwFields.tsub 19032704 4290000000 = 24000000 ∧
    hwFields.tsub 0 1 = 4294967295 ∧ hwFields.tsub 5 5 = 0 ∧ hwFields.tsub 1000 24001000 = 4270967296 ∧
    t1Fields.tsub 14 250 = 20 ∧ t1Fields.tsub 249 250 = 255 ∧
    Config.tsub { t1Fields with tickMod := 100 } 5 90 = 15 ∧
    Config.tsub { t1Fields with tickMod := 100 } 89 90 = 99 := by decide
/-- Section 2.5. -/
theorem test_render_line :
    renderLine 2500 [100, 3000, 2400, 2600, 2500, 2501, 0, 4094, 2499, 1] =
      [.low, .high, .low, .high, .low, .high, .low, .high, .low, .low] := by decide
/-- R38: entry 0 lowest. -/
theorem test_render_data :
    (State.renderData { stateAt t1 .rend with fb := [0x123, 0x456, 0x789] }).toNat = 0x789456123 := by decide
theorem test_register_widths :
    hwFields.jWidth = 7 ∧ hwFields.wrIdxWidth = 5 ∧ hwFields.tickWidth = 32 ∧ t1Fields.jWidth = 3 := by decide

/-! ### Single steps: the vectors X1 to X35 -/

/-- X2. -/
theorem test_strbHi_clears :
    (nextOf (step { stateAt hwTest .strbHi with j := 127, wrIdx := 21 })).map
      (fun t => (t.stepCode, t.strobe, t.j, t.wrIdx, t.trace)) = some (1#4, true, 0, 0, [.strobeSet true]) := by decide
/-- X3. -/
theorem test_clkHi_raises :
    (nextOf (step { stateAt hwTest .clkHi with strobe := true })).map
      (fun t => (t.stepCode, t.strobe, t.clock, t.j, t.trace)) =
    some (2#4, true, true, 0, [.clockSet true]) := by decide
/-- X4. -/
theorem test_strbLo_first_pulse :
    (nextOf (step { stateAt hwTest .strbLo with strobe := true, clock := true })).map
      (fun t => (t.stepCode, t.strobe, t.clock, t.trace)) = some (3#4, false, true, [.strobeSet false]) := by decide
/-- X5. -/
theorem test_strbLo_later_pulse :
    (nextOf (step { stateAt hwTest .strbLo with j := 1, clock := true })).map
      (fun t => (t.stepCode, t.strobe, t.clock, t.trace)) = some (3#4, false, true, []) := by decide
/-- X8. -/
theorem test_clkLo_counts :
    (nextOf (step { stateAt hwTest .clkLo with j := 126, clock := true })).map
      (fun t => (t.stepCode, t.clock, t.j, t.trace)) = some (1#4, false, 127, [.clockSet false]) := by decide
/-- X9 and X10. -/
theorem test_clkLo_last_pulse :
    [Phase.awaitingExposure, .capturing].map (fun p =>
      (nextOf (step { stateAt hwTest .clkLo with j := 127, clock := true, phase := p })).map
        (fun t => (t.stepCode, t.clock, t.j, t.phase))) =
    [some (6#4, false, 127, .awaitingExposure), some (8#4, false, 127, .capturing)] := by decide
/-- X11. -/
theorem test_xmark_marks :
    (nextOf (step { stateAt hwTest .xmark with j := 18, env := { quiet with tickAdvances := [1000] } })).map
      (fun t => (t.stepCode, t.expStart, t.env.markTime, t.trace)) =
    some (4#4, 1000, 1000, [.tickRead 1000]) := by decide
/-- X12, X13 and X14: the counter is not asked. -/
theorem test_xmark_elsewhere :
    [(Phase.awaitingExposure, 17), (.awaitingExposure, 19), (.capturing, 18)].map (fun p =>
      (nextOf (step (under { stateAt hwTest .xmark with phase := p.1, j := p.2, expStart := 1000 }
        { quiet with tickAdvances := [5] }))).map
        (fun t => (t.stepCode, t.expStart, t.env.tickAdvances, t.trace))) =
    [some (4#4, 1000, [5], []), some (4#4, 1000, [5], []), some (4#4, 1000, [5], [])] := by decide
/-- X29: the reading is reduced to 12 bits, the event shows it whole. -/
theorem test_samp_collects :
    (nextOf (step (under { stateAt hwTest .samp with phase := .capturing, j := 37, wrIdx := 1 }
        { quiet with adcAnswers := [5000, 7] }))).map
      (fun t => (t.stepCode, t.wrIdx, t.fb.read 1, t.env.adcAnswers, t.trace)) =
    some (5#4, 2, some 904, [7], [.adcRead 37 5000, .fbWrite 1 904]) := by decide
/-- X25 and X26. -/
theorem test_samp_elsewhere :
    [(Phase.capturing, 97, 21), (.awaitingExposure, 34, 0)].map (fun p =>
      (nextOf (step (under { stateAt hwTest .samp with phase := p.1, j := p.2.1, wrIdx := p.2.2 }
        { quiet with adcAnswers := [5000] }))).map
        (fun t => (t.stepCode, t.wrIdx, t.env.adcAnswers, t.trace))) =
    [some (5#4, 21, [5000], []), some (5#4, 0, [5000], [])] := by decide
/-- X31, on `T1`. -/
theorem test_rend_sends :
    (nextOf (step { stateAt t1 .rend with j := 7, fb := [7, 8, 9] })).map (fun t => (t.stepCode, t.fb, t.trace)) =
    some (7#4, [7, 8, 9], [.render [7, 8, 9]]) := by decide
/-- X15 and X16. -/
theorem test_xwait_boundary :
    [24000999, 24001000].map (fun d =>
      (nextOf (step { stateAt hwTest .xwait with expStart := 1000, env := { quiet with tickAdvances := [d] } })).map
        (fun t => (t.stepCode, t.trace))) =
    [some (7#4, [.tickRead 24000999]), some (8#4, [.tickRead 24001000])] := by decide
/-- X18: the counter has wrapped since the mark. -/
theorem test_xwait_wrapped :
    (nextOf (step (under { stateAt hwTest .xwait with expStart := 4290000000 }
        { quiet with time := 4290000000, tickAdvances := [24000000] }))).map
      (fun t => (t.stepCode, t.trace)) = some (8#4, [.tickRead 19032704]) := by decide
/-- X20 and X21. -/
theorem test_flip_toggles :
    [Phase.awaitingExposure, .capturing].map (fun p =>
      (nextOf (step { stateAt hwTest .flip with j := 127, wrIdx := 21, phase := p })).map
        (fun t => (t.stepCode, t.phase, t.j, t.wrIdx))) =
    [some (0#4, .capturing, 127, 21), some (0#4, .awaitingExposure, 127, 21)] := by decide
/-- X33: the reset wins over the operation, and the two values it leaves open are not named. -/
theorem test_reset_mid_scan :
    (nextOf (step (under { stateAt hwTest .samp with phase := .capturing, j := 40, wrIdx := 2, clock := true }
        { quiet with rst := [true] }))).map
      (fun t => (t.stepCode, t.phase, t.wrIdx, t.clock, t.trace)) =
    some (0#4, .awaitingExposure, 0, false, []) := by decide

/-! ### Witnesses: concrete states that meet the hypotheses of the statements

The states are places in the runs P1 and P2 of 95_test_vectors.md, on `T1`. -/

/-- The trace of P1 up to its `REND`. -/
def traceP1 : List Event :=
  [.strobeSet true, .clockSet true, .strobeSet false, .clockSet false, .clockSet true, .clockSet false,
    .clockSet true, .tickRead 250, .clockSet false, .clockSet true, .clockSet false, .clockSet true, .clockSet false,
    .clockSet true, .clockSet false, .clockSet true, .clockSet false, .clockSet true, .clockSet false,
    .render [7, 8, 9]]

/-- The pin events of a frame up to the middle of pulse 2. -/
def traceToPulse2 : List Event :=
  [.strobeSet true, .clockSet true, .strobeSet false, .clockSet false, .clockSet true, .clockSet false,
    .clockSet true]

/-- P1 at its start: the reset state with one possible draw of the buffer. -/
def startP1 : State := under { stateAt t1 .strbHi with fb := [7, 8, 9] }
  { quiet with tickAdvances := [250, 9, 7, 4] }

/-- P1 at its first `XWAIT`. -/
def waitP1 : State := under { stateAt t1 .xwait with j := 7, expStart := 250, fb := [7, 8, 9], trace := traceP1 }
  { quiet with time := 250, markTime := 250, tickAdvances := [9, 7, 4] }

/-- P1 at its last `XWAIT`. -/
def lastWaitP1 : State :=
  under { waitP1 with trace := traceP1 ++ [.tickRead 3, .tickRead 10] }
    { quiet with time := 266, markTime := 250, tickAdvances := [4] }

/-- P1 at its `FLIP`. -/
def flipP1 : State :=
  under { waitP1 with stepCode := encode .flip, trace := traceP1 ++ [.tickRead 3, .tickRead 10, .tickRead 14] }
    { quiet with time := 270, markTime := 250 }

/-- P1 at its end, with the answers of P2 pending. -/
def startP2 : State := under { flipP1 with stepCode := encode .strbHi, phase := .capturing }
  { quiet with time := 270, markTime := 250, tickAdvances := [86, 100], adcAnswers := [100, 3000, 2500] }

/-- P2 at the first `SAMP` that collects. -/
def sampP2 : State :=
  { startP2 with stepCode := encode .samp, j := 2, clock := true, trace := startP2.trace ++ traceToPulse2 }

/-- The trace of P2's Capturing frame. -/
def traceP2 : List Event :=
  traceToPulse2 ++ [.adcRead 2 100, .fbWrite 0 100, .clockSet false, .clockSet true, .clockSet false,
    .clockSet true, .adcRead 4 3000, .fbWrite 1 3000, .clockSet false, .clockSet true, .clockSet false,
    .clockSet true, .adcRead 6 2500, .fbWrite 2 2500, .clockSet false, .clockSet true, .clockSet false]

/-- P2 at the `FLIP` of its Capturing frame. -/
def flipP2 : State :=
  { startP2 with stepCode := encode .flip, wrIdx := 3, fb := [100, 3000, 2500], trace := startP2.trace ++ traceP2 }

/-- A frame that stands at the operation `i` of its first pulse, with the pin levels and the trace given. -/
def firstPulseAt (i : Instr) (strobe clock : Level) (trace : List Event) : State :=
  { startP1 with stepCode := encode i, strobe := strobe, clock := clock, trace := trace }

theorem startP1_sequenced : startP1.Sequenced := by constructor <;> decide
theorem waitP1_sequenced : waitP1.Sequenced := by constructor <;> decide
theorem lastWaitP1_sequenced : lastWaitP1.Sequenced := by constructor <;> decide
theorem flipP1_sequenced : flipP1.Sequenced := by constructor <;> decide
theorem startP2_sequenced : startP2.Sequenced := by constructor <;> decide
theorem sampP2_sequenced : sampP2.Sequenced := by constructor <;> decide
theorem flipP2_sequenced : flipP2.Sequenced := by constructor <;> decide

/-! #### Codes, fetch, reset, configuration -/

theorem witness_StepCodesAreThePatterns : 9 ≤ (9#4 : StepCode).toNat ∧ 9 ≤ (15#4 : StepCode).toNat := by decide

theorem witness_DecodeAndEncodeAgree :
    Instr.flip.wellFormed = true ∧ decode 8#4 = .ok .flip ∧ 9 ≤ 9 := ⟨rfl, rfl, Nat.le_refl 9⟩

theorem witness_StepRunsTheDecodedOperation :
    decode sampP2.stepCode = .ok .samp ∧ sampP2.rstAsserted = false ∧ sampP2.env.rst = [] ∧
    (under sampP2 { quiet with rst := [false, true] }).rstAsserted = false := ⟨rfl, rfl, rfl, rfl⟩

theorem witness_ReservedStepCodeFaults :
    State.rstAsserted { startP1 with stepCode := 9#4 } = false ∧ 9 ≤ (9#4 : StepCode).toNat ∧
    ∃ t, exec .xwait waitP1 = .next t := ⟨rfl, by decide, _, rfl⟩

theorem witness_ResetWinsFromEveryState :
    (under sampP2 { quiet with rst := [true, false] }).rstAsserted = true ∧
    ∃ t, step (under sampP2 { quiet with rst := [true, false] }) = .next t ∧ t.rstAsserted = false :=
  ⟨rfl, _, rfl, rfl⟩

theorem witness_InvalidConfigurationIsRefused :
    (1 ≤ t1Fields.pixels ∧ 1 ≤ t1Fields.winM ∧ t1Fields.sampleCount ≤ t1Fields.lineWidth ∧
      t1Fields.cue ≤ t1Fields.pixels - 1 ∧
      (1 ≤ t1Fields.ticksPerUs ∧ t1Fields.exposureUs * t1Fields.ticksPerUs < t1Fields.tickMod ∧
        2 ≤ t1Fields.tickMod) ∧
      t1Fields.adcMax < 2 ^ t1Fields.sampleW ∧ 1 ≤ t1Fields.lineWidth) ∧
    ¬ (Config.sampleCount { t1Fields with lineWidth := 2 } ≤ 2) ∧ ¬ (1 ≤ Config.winM { t1Fields with winM := 0 }) :=
  by decide

/-! #### The operations -/

theorem witness_StrbHiBeginsAFrame :
    startP1.Sequenced ∧ startP1.isAt .strbHi ∧ startP2.Sequenced ∧ startP2.isAt .strbHi :=
  ⟨startP1_sequenced, rfl, startP2_sequenced, rfl⟩

/-- At pixel 0 and at pixel 1. -/
theorem witness_ClkHiRaisesClock :
    (firstPulseAt .clkHi true false [.strobeSet true]).Sequenced ∧
    (firstPulseAt .clkHi true false [.strobeSet true]).isAt .clkHi ∧
    State.Sequenced { firstPulseAt .clkHi false false (traceToPulse2.take 4) with j := 1 } :=
  ⟨by constructor <;> decide, rfl, by constructor <;> decide⟩

theorem witness_StrbLoLowersStrobeOnFirstPulse :
    (firstPulseAt .strbLo true true (traceToPulse2.take 2)).Sequenced ∧
    (firstPulseAt .strbLo true true (traceToPulse2.take 2)).isAt .strbLo ∧
    (firstPulseAt .strbLo true true (traceToPulse2.take 2)).j = 0 ∧ sampP2.j ≠ 0 ∧
    flipP1.PinsTraced ∧ flipP1.isAt .flip :=
  ⟨by constructor <;> decide, rfl, rfl, by decide, ⟨flipP1_sequenced, by decide⟩, rfl⟩

/-- The last pulse but one, and the last of either phase. -/
theorem witness_ClkLoLowersClockAndCounts :
    State.Sequenced { sampP2 with stepCode := encode .clkLo, j := 6, wrIdx := 3 } ∧
    6 < t1.pixels - 1 ∧
    State.Sequenced { sampP2 with stepCode := encode .clkLo, j := 7, wrIdx := 3 } ∧
    State.Sequenced { sampP2 with stepCode := encode .clkLo, j := 7, phase := .awaitingExposure } ∧
    ¬ 7 < t1.pixels - 1 :=
  ⟨by constructor <;> decide, by decide, by constructor <;> decide, by constructor <;> decide, by decide⟩

/-- At the mark's pixel, one before it, and in a Capturing frame at it. -/
theorem witness_XmarkRecordsTheExposureStart :
    (startP1.phase = .awaitingExposure ∧ State.j { startP1 with j := 2 } = startP1.config.cue ∧
      startP1.env.tickAdvances = 250 :: [9, 7, 4]) ∧
    flipP1.env.tickAdvances = [] ∧
    ¬ (startP1.phase = .awaitingExposure ∧ State.j { startP1 with j := 1 } = startP1.config.cue) ∧
    ¬ (sampP2.phase = .awaitingExposure ∧ sampP2.j = sampP2.config.cue) := by decide

theorem witness_XwaitComparesAFreshTick :
    waitP1.env.tickAdvances = 9 :: [7, 4] ∧ (under waitP1 quiet).env.tickAdvances = [] := by decide

theorem witness_FlipChangesPhase :
    flipP1.phase = .awaitingExposure ∧ flipP2.phase = .capturing ∧ ∃ t, exec .clkLo sampP2 = .next t :=
  ⟨rfl, rfl, _, rfl⟩

/-- Both bounds of the window, an index beside the stride, and an AwaitingExposure frame. -/
theorem witness_SampCollectsADueSample :
    (sampP2.phase = .capturing ∧ t1.winN ≤ 2 ∧ 2 + t1.winN ≤ t1.pixels ∧ (2 - t1.winN) % t1.winM = 0 ∧
      sampP2.wrIdx < t1.lineWidth ∧ sampP2.env.adcAnswers = 100 :: [3000, 2500]) ∧
    (t1.winN ≤ 6 ∧ 6 + t1.winN ≤ t1.pixels ∧ (6 - t1.winN) % t1.winM = 0 ∧ 2 < t1.lineWidth) ∧
    (under sampP2 quiet).env.adcAnswers = [] ∧
    ¬ ((3 - t1.winN) % t1.winM = 0) ∧ startP1.phase ≠ .capturing := by decide

theorem witness_SampOverflowFaults :
    sampP2.phase = .capturing ∧ sampP2.config.winN ≤ sampP2.j ∧
    sampP2.j + sampP2.config.winN ≤ sampP2.config.pixels ∧
    (sampP2.j - sampP2.config.winN) % sampP2.config.winM = 0 ∧
    sampP2.config.lineWidth ≤ State.wrIdx { sampP2 with wrIdx := 3 } ∧
    sampP2.stepCode = encode .samp ∧ sampP2.rstAsserted = false := by decide

theorem witness_RendHandsOverTheBuffer :
    State.Sequenced { waitP1 with stepCode := encode .rend } ∧
    State.isAt { waitP1 with stepCode := encode .rend } .rend := ⟨by constructor <;> decide, rfl⟩

/-! #### Frames -/

theorem witness_PinOperationsFrame :
    (∃ t, exec .strbHi startP1 = .next t) ∧ (∃ t, exec .clkHi startP1 = .next t) ∧
    (∃ t, exec .strbLo startP1 = .next t) ∧ ∃ t, exec .clkLo startP1 = .next t :=
  ⟨⟨_, rfl⟩, ⟨_, rfl⟩, ⟨_, rfl⟩, ⟨_, rfl⟩⟩

theorem witness_TimerOperationsFrame :
    (∃ t, exec .xmark { startP1 with j := 2 } = .next t) ∧ (∃ t, exec .xwait waitP1 = .next t) ∧
    ∃ t, exec .flip flipP1 = .next t := ⟨⟨_, rfl⟩, ⟨_, rfl⟩, ⟨_, rfl⟩⟩

theorem witness_SampFrame :
    (∃ t, exec .samp sampP2 = .next t) ∧ sampP2.storeIndex = some 0 ∧
    (∃ t, exec .samp { sampP2 with j := 3 } = .next t) ∧ State.storeIndex { sampP2 with j := 3 } = none :=
  ⟨⟨_, rfl⟩, by decide, ⟨_, rfl⟩, by decide⟩

theorem witness_RendFrame : ∃ t, exec .rend waitP1 = .next t := ⟨_, rfl⟩

/-! #### Invariants -/

theorem witness_ResetMeetsEveryInvariant : State.reset.fromReset := ⟨_, _, rfl⟩

theorem witness_StepKeepsSequenced : sampP2.Sequenced ∧ ∃ t, step sampP2 = .next t :=
  ⟨sampP2_sequenced, _, rfl⟩

theorem witness_SequencedMachineNeverStops : lastWaitP1.Sequenced := lastWaitP1_sequenced

theorem witness_StepKeepsPinsTraced : sampP2.PinsTraced ∧ ∃ t, step sampP2 = .next t :=
  ⟨⟨sampP2_sequenced, by decide⟩, _, rfl⟩

theorem lastWaitP1_timed : lastWaitP1.ExposureTimed :=
  ⟨lastWaitP1_sequenced, fun _ => by decide, by decide⟩

theorem witness_StepKeepsExposureTimed : lastWaitP1.ExposureTimed ∧ ∃ t, step lastWaitP1 = .next t :=
  ⟨lastWaitP1_timed, _, rfl⟩

theorem witness_StepKeepsSamplesTraced : sampP2.SamplesTraced ∧ ∃ t, step sampP2 = .next t :=
  ⟨⟨sampP2_sequenced, by decide, fun _ => ⟨[], by decide⟩⟩, _, rfl⟩

theorem witness_StepKeepsAlternating : startP2.Alternating ∧ ∃ t, step startP2 = .next t :=
  ⟨⟨startP2_sequenced, by decide, by decide, by decide⟩, _, rfl⟩

theorem witness_StepKeepsMarkedOnce : waitP1.MarkedOnce ∧ ∃ t, step waitP1 = .next t :=
  ⟨⟨waitP1_sequenced, fun _ h => absurd rfl h, by decide⟩, _, rfl⟩

theorem witness_StepKeepsMemoryForm :
    Memory.wf sampP2.config.toConfig sampP2.fb = true ∧ ∃ t, step sampP2 = .next t := ⟨by decide, _, rfl⟩

/-! #### What the invariants say of a frame -/

theorem witness_WholeFramePinTrace :
    flipP1.PinsTraced ∧ flipP1.isAt .flip ∧ startP2.PinsTraced ∧ startP2.isAt .strbHi ∧ startP2.trace ≠ [] :=
  ⟨⟨flipP1_sequenced, by decide⟩, rfl, ⟨startP2_sequenced, by decide⟩, rfl, by decide⟩

theorem witness_PulseTracking : sampP2.PinsTraced ∧ ¬ sampP2.isAt .strbHi :=
  ⟨⟨sampP2_sequenced, by decide⟩, by decide⟩

theorem witness_WaitNeverEndsEarly :
    lastWaitP1.ExposureTimed ∧ lastWaitP1.rstAsserted = false ∧
    ∃ t, step lastWaitP1 = .next t ∧ t.isAt .flip ∧ t.phase = .awaitingExposure :=
  ⟨lastWaitP1_timed, rfl, _, rfl, rfl, rfl⟩

theorem witness_FinishedCaptureHoldsTheReadings :
    flipP2.SamplesTraced ∧ flipP2.isAt .flip ∧ flipP2.phase = .capturing :=
  ⟨⟨flipP2_sequenced, by decide, fun _ => ⟨[100, 3000, 2500], by decide⟩⟩, rfl, rfl⟩

/-! #### Runs -/

/-- P2 with the reset input asserted at the first step after `n`, where the premise `NoResetDuring` is at its
boundary. -/
def startP2ThenReset (n : Nat) : State := under startP2 { startP2.env with rst := List.replicate n false ++ [true] }

theorem startP2ThenReset_sequenced (n : Nat) : (startP2ThenReset n).Sequenced :=
  { startP2_sequenced with }

theorem witness_CapturingFrameRun :
    (startP2ThenReset 42).Sequenced ∧ (startP2ThenReset 42).noResetDuring (5 * t1.pixels + 2) = true ∧
    startP2.isAt .strbHi ∧ startP2.phase = .capturing ∧
    startP2.env.adcAnswers = [100, 3000, 2500] ++ [] ∧ [100, 3000, 2500].length = startP2.config.sampleCount :=
  ⟨startP2ThenReset_sequenced 42, by decide, rfl, rfl, rfl, by decide⟩

theorem witness_AwaitingFrameRunsToTheWait :
    startP1.Sequenced ∧ startP1.noResetDuring (5 * startP1.config.pixels + 2) = true ∧ startP1.isAt .strbHi ∧
    startP1.phase = .awaitingExposure := ⟨startP1_sequenced, by decide, rfl, rfl⟩

theorem witness_RenderShowsThePrecedingCapture :
    (startP2ThenReset 84).Sequenced ∧ (startP2ThenReset 84).noResetDuring (10 * t1.pixels + 4) = true ∧
    startP2.isAt .strbHi ∧ startP2.phase = .capturing ∧
    startP2.env.adcAnswers = [100, 3000, 2500] ++ [] ∧ [100, 3000, 2500].length = startP2.config.sampleCount :=
  ⟨startP2ThenReset_sequenced 84, by decide, rfl, rfl, rfl, by decide⟩

theorem witness_WaitEndsAtTheFirstAnswerInTheWindow :
    waitP1.isAt .xwait ∧ waitP1.noResetDuring ([9, 7].length + 1) = true ∧
    waitP1.env.tickAdvances = [9, 7] ++ 4 :: [] ∧
    (∀ k, k < [9, 7].length → waitP1.config.tsub ((waitP1.env.time + ([9, 7].take (k + 1)).sum) %
      waitP1.config.tickMod) waitP1.expStart < waitP1.config.expTicks) ∧
    waitP1.config.expTicks ≤
      waitP1.config.tsub ((waitP1.env.time + [9, 7].sum + 4) % waitP1.config.tickMod) waitP1.expStart := by decide

/-- The reads of the missed window of 95_test_vectors.md section 2.3 (3, 13, 251), and a counter that stands still. -/
theorem witness_WaitGoesOnWhileAnswersMissTheWindow :
    waitP1.isAt .xwait ∧ waitP1.noResetDuring 3 = true ∧
    (under waitP1 { waitP1.env with tickAdvances := [9, 10, 238, 25] }).env.tickAdvances = [9, 10, 238] ++ [25] ∧
    (∀ k, k < [9, 10, 238].length → waitP1.config.tsub ((waitP1.env.time + ([9, 10, 238].take (k + 1)).sum) %
      waitP1.config.tickMod) waitP1.expStart < waitP1.config.expTicks) ∧
    (under waitP1 { waitP1.env with tickAdvances := [0, 0, 0] }).env.tickAdvances = List.replicate 3 0 ∧
    waitP1.config.tsub (waitP1.env.time % waitP1.config.tickMod) waitP1.expStart < waitP1.config.expTicks := by
  decide

theorem witness_WaitEndsWhenPolledOftenEnough :
    State.Sequenced (under waitP1 { waitP1.env with tickAdvances := [236, 20] }) ∧ waitP1.isAt .xwait ∧
    (∀ d ∈ [236, 20], d ≤ waitP1.config.tickMod - waitP1.config.expTicks) ∧
    waitP1.config.tickMod ≤ [236, 20].sum ∧ waitP1.noResetDuring [236, 20].length = true :=
  ⟨by constructor <;> decide, by decide⟩

/-! #### Arithmetic -/

/-- An empty window, a window of one index, and one that starts at pixel 0. -/
theorem witness_SampleCountClosedForm :
    Config.firstViolated { t1Fields with winN := 5 } = none ∧ Config.firstViolated { t1Fields with winN := 4 } = none ∧
    Config.firstViolated { t1Fields with winN := 0, winM := 3 } = none ∧ ∃ t, step sampP2 = .next t :=
  ⟨by decide, by decide, by decide, _, rfl⟩

theorem witness_SampledIndicesFillTheBufferInOrder :
    t1Fields.firstViolated = none ∧ sampP2.Sequenced ∧ sampP2.isAt .samp ∧ sampP2.phase = .capturing ∧
    0 < sampP2.config.sampleCount ∧ sampP2.j = sampP2.config.winN + 0 * sampP2.config.winM :=
  ⟨by decide, sampP2_sequenced, rfl, rfl, by decide, by decide⟩

theorem witness_TickDifferenceForms :
    4294967295 < hwFields.tickMod ∧ 0 < hwFields.tickMod ∧ hwFields.tickMod = 2 ^ 32 := by decide

theorem witness_TickDifferenceNeverExceedsElapsedTime :
    0 < t1Fields.tickMod ∧ 250 ≤ 505 ∧ 505 - 250 < t1Fields.tickMod := by decide

/-! #### Ports, the renderer, the whole machine -/

theorem witness_GlyphIsHighAboveThreshold : 2500 < 2501 ∧ 2500 ≤ 2500 := by decide

theorem witness_OnlyRendReachesTheDisplay :
    State.rstAsserted { waitP1 with stepCode := encode .rend } = false ∧
    (∃ t, step { waitP1 with stepCode := encode .rend } = .next t) ∧ ∃ t, step waitP1 = .next t :=
  ⟨rfl, ⟨_, rfl⟩, _, rfl⟩

theorem witness_AdcTriggerMeansOneRead :
    sampP2.rstAsserted = false ∧ (∃ t, step sampP2 = .next t) ∧ sampP2.adcTrigger = true ∧
    (∃ t, step { sampP2 with j := 3 } = .next t) ∧ State.adcTrigger { sampP2 with j := 3 } = false :=
  ⟨rfl, ⟨_, rfl⟩, by decide, ⟨_, rfl⟩, by decide⟩

theorem witness_TickSampledMeansOneRead :
    waitP1.rstAsserted = false ∧ (∃ t, step waitP1 = .next t) ∧ waitP1.tickSampled = true ∧
    (∃ t, step sampP2 = .next t) ∧ sampP2.tickSampled = false :=
  ⟨rfl, ⟨_, rfl⟩, by decide, ⟨_, rfl⟩, by decide⟩

theorem witness_RenderDataHoldsEntriesInOrder :
    Memory.wf waitP1.config.toConfig waitP1.fb = true ∧ waitP1.fb.read 0 = some 7 ∧ waitP1.fb.read 2 = some 9 ∧
    waitP1.rstAsserted = false ∧ ∃ t, step waitP1 = .next t :=
  ⟨by decide, rfl, rfl, rfl, _, rfl⟩

theorem witness_RegistersFitTheirWidths : flipP2.Sequenced ∧ flipP2.fb.read 2 = some 2500 :=
  ⟨flipP2_sequenced, rfl⟩

theorem witness_SuccessorTableIsTheControlTransfer :
    (∃ t, exec .strbHi startP1 = .next t) ∧ (∃ t, exec .clkLo sampP2 = .next t ∧ sampP2.j < sampP2.config.pixels - 1) ∧
    (∃ t, exec .clkLo flipP2 = .next t ∧ ¬ flipP2.j < flipP2.config.pixels - 1) ∧ ∃ t, exec .flip flipP2 = .next t :=
  ⟨⟨_, rfl⟩, ⟨_, rfl, by decide⟩, ⟨_, rfl, by decide⟩, _, rfl⟩

theorem witness_OnlyXwaitCanStay : ∃ t, exec .xwait waitP1 = .next t ∧ t.isAt .xwait := ⟨_, rfl, rfl⟩

theorem witness_OneEnvironmentReadPerStep :
    (∃ t, step sampP2 = .next t ∧ sampP2.rstAsserted = false) ∧
    ∃ t, step (under sampP2 { quiet with rst := [true] }) = .next t ∧
      (under sampP2 { quiet with rst := [true] }).rstAsserted = true := ⟨⟨_, rfl, rfl⟩, _, rfl, rfl⟩

theorem witness_ConstantsNeverChange : ∃ t, step (under sampP2 { quiet with rst := [true] }) = .next t := ⟨_, rfl⟩

theorem witness_ThresholdIsInvisibleToTheEngine :
    (∃ t, step sampP2 = .next t) ∧ step { sampP2 with wrIdx := 3 } = .fault .frameBufferOverflow := ⟨⟨_, rfl⟩, rfl⟩

theorem witness_ReadingsDoNotSteerTheEngine :
    sampP2.AgreeButReadings (under sampP2 { sampP2.env with adcAnswers := [4094] }) ∧ (∃ t, step sampP2 = .next t) ∧
    State.AgreeButReadings { sampP2 with wrIdx := 3 } { sampP2 with wrIdx := 3, fb := [1, 2, 3] } ∧
    step { sampP2 with wrIdx := 3 } = .fault .frameBufferOverflow :=
  ⟨by constructor <;> rfl, ⟨_, rfl⟩, by constructor <;> rfl, rfl⟩

/-! #### Under the named premises -/

theorem waitP1_timed : waitP1.ExposureTimed := ⟨waitP1_sequenced, fun _ => by decide, by decide⟩

/-- The reads of P1 (two that miss, then one at the first tick of the window), and a counter read at every tick. -/
theorem witness_WaitEndsExactlyWhenSampled :
    waitP1.ExposureTimed ∧ waitP1.isAt .xwait ∧ waitP1.noResetPending = true ∧ waitP1.waitSampled ∧
    waitP1.noResetDuring 2 = true ∧ waitP1.noResetDuring (2 + 1) = true ∧
    (∀ k, k < 2 →
      (waitP1.env.tickTimeAt k - waitP1.env.markTime) % waitP1.config.tickMod < waitP1.config.expTicks) ∧
    waitP1.config.expTicks ≤ (waitP1.env.tickTimeAt 2 - waitP1.env.markTime) % waitP1.config.tickMod ∧
    t1Fields.firstViolated = none ∧ TickProgress (fun k => k) ∧
    ∀ k, (k + 1) - k ≤ t1Fields.tickMod - t1Fields.expTicks :=
  ⟨waitP1_timed, rfl, rfl, ⟨2, by decide⟩, by decide, by decide, by decide, by decide, by decide, fun bound => ⟨bound, Nat.le_refl _⟩,
    fun k => by rw [Nat.add_sub_cancel_left]; decide⟩

theorem witness_AnswersInRangeAreStoredWhole :
    (startP2ThenReset 42).Sequenced ∧ (startP2ThenReset 42).noResetDuring (5 * t1.pixels + 2) = true ∧
    startP2.isAt .strbHi ∧ startP2.phase = .capturing ∧
    (startP2ThenReset 42).adcInRangeFor ((startP2ThenReset 42).config.sampleCount + 0) :=
  ⟨startP2ThenReset_sequenced 42, by decide, rfl, rfl, by unfold State.adcInRangeFor; decide⟩

end Sys2Proof.Tests
end

section
/-! PROOFS. The family of 40_pulse_protocol.md: what `STRB_LO` and `CLK_LO` answer, branch by branch, and how often
Strobe falls in a scan. -/

namespace Sys2Proof.Machine

variable {s : State}

/-! ### The two operations, one equation per branch (R93, R94) -/

theorem exec_strbLo_of_j_eq_zero (hj : s.j = 0) : exec .strbLo s = .next ((s.setStrobe false).goTo .xmark) := by
  simp [exec, execStrbLo, State.firstPulse_iff, hj]

theorem exec_strbLo_of_j_ne_zero (hj : s.j ≠ 0) : exec .strbLo s = .next (s.goTo .xmark) := by
  simp [exec, execStrbLo, State.firstPulse_iff, hj]

theorem exec_clkLo_of_pulsesLeft (hj : s.j < s.config.pixels - 1) :
    exec .clkLo s = .next (State.goTo { s.setClock false with j := s.j + 1 } .clkHi) := by
  simp [exec, execClkLo, State.pulsesLeft_iff, hj]

theorem exec_clkLo_of_lastPulse (hj : ¬ s.j < s.config.pixels - 1) :
    exec .clkLo s =
      .next ((s.setClock false).goTo (if s.phase = .awaitingExposure then .rend else .flip)) := by
  simp [exec, execClkLo, State.pulsesLeft_iff, hj]

/-- `CLK_LO` keeps `J` in the range of R22: it counts only where there is a next pixel. -/
theorem exec_clkLo_j_le {t : State} (hj : s.j ≤ s.config.pixels - 1) (h : exec .clkLo s = .next t) :
    t.j ≤ s.config.pixels - 1 := by
  rcases exec_clkLo_next h with ⟨hlt, rfl⟩ | ⟨-, -, rfl⟩ | ⟨-, -, rfl⟩
  · exact hlt
  · exact hj
  · exact hj

/-! ### The pins where `STRB_LO` and `CLK_LO` stand (R29, R30) -/

theorem State.Sequenced.clock_of_isAt_strbLo (h : s.Sequenced) (hs : s.isAt .strbLo) : s.clock = true :=
  h.clock_high.2 (.inl hs)

theorem State.Sequenced.clock_of_isAt_clkLo (h : s.Sequenced) (hs : s.isAt .clkLo) : s.clock = true :=
  h.clock_high.2 (.inr (.inr (.inr hs)))

theorem State.Sequenced.strobe_of_isAt_strbLo (h : s.Sequenced) (hs : s.isAt .strbLo) (hj : s.j = 0) :
    s.strobe = true :=
  h.strobe_high.2 (.inr ⟨hs, hj⟩)

/-! ### The Strobe falls of a scan (R93, R95) -/

theorem count_strobeFall_pulsePins (j : Nat) :
    (pulsePins j).count (.strobeSet false) = if j = 0 then 1 else 0 := by
  by_cases hj : j = 0
  · subst hj; decide
  · simp [pulsePins, strobeFall_of_ne hj, hj]

/-- Strobe falls once in a scan, however many pulses follow the first. -/
theorem count_strobeFall_scanPins (n : Nat) : (scanPins (n + 1)).count (.strobeSet false) = 1 := by
  induction n with
  | zero => decide
  | succ n ih => rw [scanPins_succ, List.count_append, ih, count_strobeFall_pulsePins, if_neg (Nat.succ_ne_zero n)]

/-- At `FLIP` the frame has made all pin events of its scan (R95). -/
theorem State.PinsTraced.framePins_of_isAt_flip (h : s.PinsTraced) (hs : s.isAt .flip) :
    s.framePins = scanPins (s.j + 1) := by
  rcases h.pins with ⟨hstart, -⟩ | hpins
  · exact absurd ((State.isAt_iff_of_isAt hs _).1 hstart) (by decide)
  · rw [hpins, State.pinsDue_of_isAt hs, pinsDueAt]

/-! ### The statements -/

/-- Settles O11: the two branches of `STRB_LO`, the pins the sequence holds there, and the one Strobe fall of a
scan. -/
theorem strbLoLowersStrobeOnFirstPulse : Obligations.StrbLoLowersStrobeOnFirstPulse := by
  unfold Obligations.StrbLoLowersStrobeOnFirstPulse
  refine ⟨rfl, fun s hj => exec_strbLo_of_j_eq_zero hj, fun s hj => exec_strbLo_of_j_ne_zero hj, ?_, ?_⟩
  · intro s hseq hs hj
    exact ⟨hseq.strobe_of_isAt_strbLo hs hj, hseq.clock_of_isAt_strbLo hs⟩
  · intro s hpins hs
    rw [hpins.framePins_of_isAt_flip hs, count_strobeFall_scanPins]

/-- Settles O12: the three branches of `CLK_LO`, and from `J ≤ PIXELS-1` in a sequenced state that the last pulse is
`J = PIXELS-1` and that `J` stays in range. -/
theorem clkLoLowersClockAndCounts : Obligations.ClkLoLowersClockAndCounts := by
  unfold Obligations.ClkLoLowersClockAndCounts
  refine ⟨rfl, fun s hj => exec_clkLo_of_pulsesLeft hj, ?_, ?_, ?_⟩
  · intro s hj hp
    rw [exec_clkLo_of_lastPulse hj, if_pos hp]
    rfl
  · intro s hj hp
    rw [exec_clkLo_of_lastPulse hj, if_neg (by simp [hp])]
    rfl
  · intro s hseq hs
    exact ⟨hseq.clock_of_isAt_clkLo hs, fun hlast => Nat.le_antisymm hseq.j_range (Nat.le_of_not_lt hlast),
      fun t ht => exec_clkLo_j_le hseq.j_range ht⟩

end Sys2Proof.Machine
end

section
/-! PROOFS. The family of 41_exposure_timer.md: every operation follows R75's successor table, and what that table says
about the places where `FLIP` and `STRB_HI` stand. -/

namespace Sys2Proof.Machine

variable {s t : State} {i : Instr}

/-! ### Where an operation leads, and what it does to the phase (R75, R115) -/

/-- R75's table is the control transfer of every meaning. -/
theorem exec_isAt_successor (h : exec i s = .next t) : t.isAt (s.successor i) := by
  cases i with
  | strbHi => rw [exec_strbHi_next h]; rfl
  | clkHi => rw [exec_clkHi_next h]; rfl
  | strbLo => rcases exec_strbLo_next h with ⟨-, rfl⟩ | ⟨-, rfl⟩ <;> rfl
  | xmark => rcases exec_xmark_next h with ⟨-, -, rfl⟩ | ⟨-, rfl⟩ <;> rfl
  | samp => rcases exec_samp_next h with ⟨-, -, -, rfl⟩ | ⟨-, rfl⟩ <;> rfl
  | clkLo =>
    rcases exec_clkLo_next h with ⟨hj, rfl⟩ | ⟨hj, hp, rfl⟩ | ⟨hj, hp, rfl⟩
    · simp [State.isAt, State.successor, hj]
    · simp [State.isAt, State.successor, hj, hp]
    · simp [State.isAt, State.successor, hj, hp]
  | rend => rw [exec_rend_next h]; rfl
  | xwait =>
    rcases exec_xwait_next h with ⟨hw, rfl⟩ | ⟨hw, rfl⟩
    · simp [State.isAt, State.successor, hw]
    · simp [State.isAt, State.successor, hw]
  | flip => rw [exec_flip_next h]; rfl

/-- After an operation `STEP` selects exactly its successor in the table. -/
theorem exec_isAt_iff (h : exec i s = .next t) (k : Instr) : t.isAt k ↔ s.successor i = k :=
  State.isAt_iff_of_isAt (exec_isAt_successor h) k

theorem exec_phase_of_ne_flip (h : exec i s = .next t) (hi : i ≠ .flip) : t.phase = s.phase := by
  cases i with
  | strbHi => rw [exec_strbHi_next h]; rfl
  | clkHi => rw [exec_clkHi_next h]; rfl
  | strbLo => rcases exec_strbLo_next h with ⟨-, rfl⟩ | ⟨-, rfl⟩ <;> rfl
  | xmark => rcases exec_xmark_next h with ⟨-, -, rfl⟩ | ⟨-, rfl⟩ <;> rfl
  | samp => rcases exec_samp_next h with ⟨-, -, -, rfl⟩ | ⟨-, rfl⟩ <;> rfl
  | clkLo => rcases exec_clkLo_next h with ⟨-, rfl⟩ | ⟨-, -, rfl⟩ | ⟨-, -, rfl⟩ <;> rfl
  | rend => rw [exec_rend_next h]; rfl
  | xwait => rcases exec_xwait_next h with ⟨-, rfl⟩ | ⟨-, rfl⟩ <;> rfl
  | flip => exact absurd rfl hi

theorem exec_flip (s : State) : exec .flip s = .next (State.goTo { s with phase := s.phase.flip } .strbHi) := rfl

/-! ### The predecessors of `STRB_HI` and `FLIP` in the table (R75, R94, R113) -/

theorem State.successor_clkLo_eq_flip_iff (s : State) :
    s.successor .clkLo = .flip ↔ ¬ s.j < s.config.pixels - 1 ∧ s.phase = .capturing := by
  by_cases hj : s.j < s.config.pixels - 1
  · simp [State.successor, hj]
  · cases hp : s.phase <;> simp [State.successor, hj, hp]

theorem State.successor_xwait_eq_flip_iff (s : State) :
    s.successor .xwait = .flip ↔ s.config.expTicks ≤ s.config.tsub s.tickNow s.expStart := by
  by_cases hw : s.config.expTicks ≤ s.config.tsub s.tickNow s.expStart <;> simp [State.successor, hw]

theorem State.successor_clkLo_ne_strbHi (s : State) : s.successor .clkLo ≠ .strbHi := by
  by_cases hj : s.j < s.config.pixels - 1
  · simp [State.successor, hj]
  · cases hp : s.phase <;> simp [State.successor, hj, hp]

theorem State.successor_xwait_ne_strbHi (s : State) : s.successor .xwait ≠ .strbHi := by
  by_cases hw : s.config.expTicks ≤ s.config.tsub s.tickNow s.expStart <;> simp [State.successor, hw]

theorem State.successor_eq_strbHi_iff (s : State) (i : Instr) : s.successor i = .strbHi ↔ i = .flip := by
  cases i with
  | clkLo => simp [s.successor_clkLo_ne_strbHi]
  | xwait => simp [s.successor_xwait_ne_strbHi]
  | strbHi | clkHi | strbLo | xmark | samp | rend | flip => simp [State.successor]

theorem State.successor_eq_flip_iff (s : State) (i : Instr) :
    s.successor i = .flip ↔
      (i = .xwait ∧ s.config.expTicks ≤ s.config.tsub s.tickNow s.expStart) ∨
        (i = .clkLo ∧ ¬ s.j < s.config.pixels - 1 ∧ s.phase = .capturing) := by
  cases i with
  | clkLo => simp [s.successor_clkLo_eq_flip_iff]
  | xwait => simp [s.successor_xwait_eq_flip_iff]
  | strbHi | clkHi | strbLo | xmark | samp | rend | flip => simp [State.successor]

/-! ### The statement -/

/-- Settles O15: `FLIP` toggles the phase and no other operation writes it; the codes of `STRB_HI` and `FLIP` are left
by exactly the operations that have them as successor in R75's table. -/
theorem flipChangesPhase : Obligations.FlipChangesPhase := by
  unfold Obligations.FlipChangesPhase
  refine ⟨rfl, fun s hp => ?_, fun s hp => ?_, fun i s t h => ⟨exec_phase_of_ne_flip h, ?_, ?_⟩⟩
  · rw [exec_flip, hp]; rfl
  · rw [exec_flip, hp]; rfl
  · exact (exec_isAt_iff h .strbHi).trans (s.successor_eq_strbHi_iff i)
  · exact (exec_isAt_iff h .flip).trans (s.successor_eq_flip_iff i)

end Sys2Proof.Machine
end

section
/-! PROOFS. The family of 42_sampling.md: the sampled pixels of a valid configuration are `WIN_N + k * WIN_M`, in
order, and `SAMP` at the `k`-th of them stores its reading in entry `k`. -/

namespace Sys2Proof

variable {c : Config}

/-! ### The sampled pixels (R10, R132) -/

/-- Inside the upper bound of the window, the number of samples below `n` is `n - WIN_N` over `WIN_M`, rounded up. -/
theorem Config.sampledBelow_eq_ceil (hM : 1 ≤ c.winM) {n : Nat} (hn : n + c.winN ≤ c.pixels + 1) :
    c.sampledBelow n = (n - c.winN + (c.winM - 1)) / c.winM := by
  induction n with
  | zero => simp [Nat.div_eq_of_lt (Nat.sub_lt hM Nat.one_pos)]
  | succ n ih =>
    rw [Config.sampledBelow_succ, ih (by omega)]
    by_cases hN : c.winN ≤ n
    · have hw : c.inWindow n = true ↔ c.winM ∣ n - c.winN + (c.winM - 1) + 1 := by
        rw [Config.inWindow_iff, Nat.add_assoc, Nat.sub_add_cancel hM, Nat.dvd_add_self_right, Nat.dvd_iff_mod_eq_zero]
        exact ⟨fun h => h.2.2, fun h => ⟨hN, by omega, h⟩⟩
      rw [show n + 1 - c.winN + (c.winM - 1) = n - c.winN + (c.winM - 1) + 1 by omega, Nat.succ_div]
      simp only [hw]
    · have hw : ¬ c.inWindow n = true := fun h => hN ((c.inWindow_iff n).1 h).1
      rw [if_neg hw, Nat.add_zero, show n + 1 - c.winN = n - c.winN by omega]

/-- A sampled pixel is determined by how many sampled pixels come before it. -/
theorem Config.eq_of_inWindow (hM : 1 ≤ c.winM) {j : Nat} (hj : c.inWindow j = true) :
    j = c.winN + c.sampledBelow j * c.winM := by
  obtain ⟨hlo, hhi, hmod⟩ := (c.inWindow_iff j).1 hj
  obtain ⟨q, hq⟩ := Nat.dvd_of_mod_eq_zero hmod
  have hcount : c.sampledBelow j = q := by
    rw [Config.sampledBelow_eq_ceil hM (by omega), hq, Nat.mul_add_div hM,
      Nat.div_eq_of_lt (Nat.sub_lt hM Nat.one_pos), Nat.add_zero]
  rw [hcount, Nat.mul_comm, ← hq, Nat.add_sub_cancel' hlo]

/-- The sampled pixels below `n`, in order. -/
theorem Config.filter_inWindow_range (hM : 1 ≤ c.winM) (n : Nat) :
    (List.range n).filter c.inWindow = (List.range (c.sampledBelow n)).map fun k => c.winN + k * c.winM := by
  induction n with
  | zero => rfl
  | succ n ih =>
    rw [Config.sampledBelow_succ, List.range_succ, List.filter_append, ih]
    by_cases hn : c.inWindow n = true
    · simp [hn, List.range_succ, ← Config.eq_of_inWindow hM hn]
    · simp [hn]

theorem Config.inWindow_of_lt_sampleCount (hM : 1 ≤ c.winM) {k : Nat} (hk : k < c.sampleCount) :
    c.inWindow (c.winN + k * c.winM) = true := by
  have hmem : c.winN + k * c.winM ∈ (List.range c.pixels).filter c.inWindow := by
    rw [Config.filter_inWindow_range hM]
    exact List.mem_map_of_mem (List.mem_range.2 hk)
  exact (List.mem_filter.1 hmem).2

theorem Config.sampledBelow_of_lt_sampleCount (hM : 1 ≤ c.winM) {k : Nat} (hk : k < c.sampleCount) :
    c.sampledBelow (c.winN + k * c.winM) = k := by
  have h := Config.eq_of_inWindow hM (Config.inWindow_of_lt_sampleCount hM hk)
  exact (Nat.eq_of_mul_eq_mul_right hM (Nat.add_left_cancel h)).symm

theorem Config.hw_sampleCount : Config.hw.sampleCount = 21 := by decide

end Sys2Proof

namespace Sys2Proof.Machine

variable {s : State}

/-! ### `SAMP` where a sample is due (R131) -/

theorem exec_samp_of_due (hp : s.phase = .capturing) (hj : s.config.inWindow s.j = true)
    (hroom : s.wrIdx < s.config.lineWidth) :
    exec .samp s = .next ((s.adcRead.collect s.sample).goTo .clkLo) := by
  have hdue : s.sampleDue = true := s.sampleDue_iff.2 ⟨hp, hj⟩
  have hfull : ¬ s.bufferFull = true := fun h => Nat.not_le_of_lt hroom (s.bufferFull_iff.1 h)
  simp [exec, execSamp, hdue, hfull]

/-- In a Capturing frame `WRIDX` at `SAMP` is the number of sampled pixels before this one (R40). -/
theorem State.Sequenced.wrIdx_of_isAt_samp (h : s.Sequenced) (hs : s.isAt .samp) (hp : s.phase = .capturing) :
    s.wrIdx = s.config.sampledBelow s.j := by
  have hc : s.inCapture = true := by rw [State.inCapture_of_ne hs (by decide), hp]; rfl
  rw [h.wrIdx_counts hc, State.pixelsDone_of_isAt hs, pixelsDoneAt]

/-! ### The statement -/

/-- Settles O43: a sampled pixel is `WIN_N` plus `WIN_M` times the number of sampled pixels below it, which gives the
whole list in order by induction and, with R40's count in `WRIDX`, the entry each one fills. -/
theorem sampledIndicesFillTheBufferInOrder : Obligations.SampledIndicesFillTheBufferInOrder := by
  unfold Obligations.SampledIndicesFillTheBufferInOrder
  have hlist : ∀ c : Config, c.firstViolated = none →
      (List.range c.pixels).filter c.inWindow = (List.range c.sampleCount).map fun k => c.winN + k * c.winM :=
    fun c hc => Config.filter_inWindow_range (ValidConfig.mk c hc).winM_pos c.pixels
  refine ⟨?_, Config.hw_sampleCount, hlist, ?_⟩
  · have h := hlist Config.hw Config.hw_valid
    rw [Config.hw_sampleCount] at h
    exact h
  · intro s k hseq hs hp hk hj
    have hM := s.config.winM_pos
    have hwr : s.wrIdx = k := by
      rw [hseq.wrIdx_of_isAt_samp hs hp, hj, Config.sampledBelow_of_lt_sampleCount hM hk]
    have hdue : s.config.inWindow s.j = true := hj ▸ Config.inWindow_of_lt_sampleCount hM hk
    have hroom : s.wrIdx < s.config.lineWidth := hwr ▸ hk.trans_le s.config.sampleCount_le
    have hlen : s.fb.length = s.config.lineWidth := ((Memory.wf_iff _ _).1 hseq.mem_wf).1
    refine ⟨hwr, _, exec_samp_of_due hp hdue hroom, ?_⟩
    rw [State.goTo_fb, State.collect_fb, State.adcRead_wrIdx, State.adcRead_fb, hwr]
    exact Memory.read_write_same s.fb k s.sample (by omega)

end Sys2Proof.Machine
end

section
/-! PROOFS. What an operation does, said once for all nine: the events it appends, what becomes of the registers that
only some operations write, and how a property of every state of a run is proved. -/

namespace Sys2Proof.Machine

variable {s t : State} {i : Instr}

/-! ### The events of an operation (R15) -/

/-- The events that the operation `i` appends to the trace of `s`. -/
def State.events (s : State) : Instr → List Event
  | .strbHi => [.strobeSet true]
  | .clkHi => [.clockSet true]
  | .strbLo => strobeFall s.j
  | .xmark => if s.markDue then [.tickRead s.tickNow] else []
  | .samp => if s.sampleDue then [.adcRead s.j s.adcAnswer, .fbWrite s.wrIdx s.sample] else []
  | .clkLo => [.clockSet false]
  | .rend => [.render s.fb]
  | .xwait => [.tickRead s.tickNow]
  | .flip => []

theorem exec_trace (h : exec i s = .next t) : t.trace = s.trace ++ s.events i := by
  cases i with
  | strbHi => rw [exec_strbHi_next h]; rfl
  | clkHi => rw [exec_clkHi_next h]; rfl
  | strbLo => rcases exec_strbLo_next h with ⟨hj, rfl⟩ | ⟨hj, rfl⟩ <;> simp [State.events, strobeFall, hj]
  | xmark =>
    rcases exec_xmark_next h with ⟨hp, hj, rfl⟩ | ⟨hn, rfl⟩
    · simp [State.events, s.markDue_iff.2 ⟨hp, hj⟩]
    · simp [State.events, s.markDue_iff, hn]
  | samp =>
    rcases exec_samp_next h with ⟨hp, hw, -, rfl⟩ | ⟨hn, rfl⟩
    · simp [State.events, s.sampleDue_iff.2 ⟨hp, hw⟩]
    · simp [State.events, s.sampleDue_iff, hn]
  | clkLo => rcases exec_clkLo_next h with ⟨-, rfl⟩ | ⟨-, -, rfl⟩ | ⟨-, -, rfl⟩ <;> rfl
  | rend => rw [exec_rend_next h]; rfl
  | xwait => rcases exec_xwait_next h with ⟨-, rfl⟩ | ⟨-, rfl⟩ <;> rfl
  | flip => rw [exec_flip_next h]; simp [State.events]

@[simp] theorem State.rstTaken_events (s : State) (i : Instr) : s.rstTaken.events i = s.events i := by
  cases i <;> rfl

/-- The table of `State.events` row by row, one row for each branch of an operation. -/
inductive State.Emits (s : State) : Instr → List Event → Prop
  | strbHi : s.Emits .strbHi [.strobeSet true]
  | clkHi : s.Emits .clkHi [.clockSet true]
  | strbLo_first (hj : s.j = 0) : s.Emits .strbLo [.strobeSet false]
  | strbLo_later (hj : s.j ≠ 0) : s.Emits .strbLo []
  | xmark_due (hd : s.markDue = true) : s.Emits .xmark [.tickRead s.tickNow]
  | xmark_idle (hd : s.markDue = false) : s.Emits .xmark []
  | samp_due (hd : s.sampleDue = true) : s.Emits .samp [.adcRead s.j s.adcAnswer, .fbWrite s.wrIdx s.sample]
  | samp_idle (hd : s.sampleDue = false) : s.Emits .samp []
  | clkLo : s.Emits .clkLo [.clockSet false]
  | rend : s.Emits .rend [.render s.fb]
  | xwait : s.Emits .xwait [.tickRead s.tickNow]
  | flip : s.Emits .flip []

theorem State.emits (s : State) (i : Instr) : s.Emits i (s.events i) := by
  cases i with
  | strbHi => exact .strbHi
  | clkHi => exact .clkHi
  | strbLo =>
    by_cases hj : s.j = 0
    · simpa [State.events, strobeFall, hj] using Emits.strbLo_first hj
    · simpa [State.events, strobeFall, hj] using Emits.strbLo_later hj
  | xmark =>
    cases hd : s.markDue with
    | true => simpa [State.events, hd] using Emits.xmark_due hd
    | false => simpa [State.events, hd] using Emits.xmark_idle hd
  | samp =>
    cases hd : s.sampleDue with
    | true => simpa [State.events, hd] using Emits.samp_due hd
    | false => simpa [State.events, hd] using Emits.samp_idle hd
  | clkLo => exact .clkLo
  | rend => exact .rend
  | xwait => exact .xwait
  | flip => exact .flip

/-- Only `STRB_HI` raises Strobe, so the events of any other operation join the frame in progress (R95). -/
theorem State.strobeRise_notMem_events (s : State) (hi : i ≠ .strbHi) : Event.strobeSet true ∉ s.events i := by
  have h := s.emits i
  generalize s.events i = evs at h ⊢
  cases h <;> simp_all

theorem currentFrame_append_of_notMem (tr evs : List Event) (h : Event.strobeSet true ∉ evs) :
    currentFrame (tr ++ evs) = currentFrame tr ++ evs := by
  induction evs generalizing tr with
  | nil => simp
  | cons e evs ih =>
    obtain ⟨he, hevs⟩ := not_or.1 (mt List.mem_cons.2 h)
    rw [List.append_cons, ih _ hevs, currentFrame_append, if_neg (Ne.symm he), List.append_assoc, List.singleton_append]

theorem exec_currentFrame (h : exec i s = .next t) (hi : i ≠ .strbHi) :
    currentFrame t.trace = currentFrame s.trace ++ s.events i := by
  rw [exec_trace h, currentFrame_append_of_notMem _ _ (s.strobeRise_notMem_events hi)]

theorem exec_strbHi_currentFrame (h : exec .strbHi s = .next t) : currentFrame t.trace = [.strobeSet true] := by
  rw [exec_trace h]
  exact currentFrame_strobe_rise _

/-! ### What an operation leaves unchanged (R74) -/

/-- What the operation `i`, taking `s` to `t`, leaves unchanged: every field with the operations that write it. -/
structure ExecFrame (i : Instr) (s t : State) : Prop where
  config : t.config = s.config
  j : i ≠ .strbHi → i ≠ .clkLo → t.j = s.j
  strobe : i ≠ .strbHi → i ≠ .strbLo → t.strobe = s.strobe
  clock : i ≠ .clkHi → i ≠ .clkLo → t.clock = s.clock
  expStart : (i = .xmark → s.markDue = false) → t.expStart = s.expStart
  markTime : (i = .xmark → s.markDue = false) → t.env.markTime = s.env.markTime
  time : (i = .xmark → s.markDue = false) → i ≠ .xwait → t.env.time = s.env.time
  tickAdvances : (i = .xmark → s.markDue = false) → i ≠ .xwait → t.env.tickAdvances = s.env.tickAdvances
  tickDraws : (i = .xmark → s.markDue = false) → i ≠ .xwait → t.env.tickDraws = s.env.tickDraws
  wrIdx : i ≠ .strbHi → (i = .samp → s.sampleDue = false) → t.wrIdx = s.wrIdx
  fb : (i = .samp → s.sampleDue = false) → t.fb = s.fb
  adcAnswers : (i = .samp → s.sampleDue = false) → t.env.adcAnswers = s.env.adcAnswers
  adcDraws : (i = .samp → s.sampleDue = false) → t.env.adcDraws = s.env.adcDraws
  resetDraws : t.env.resetDraws = s.env.resetDraws
  env : (i = .xmark → s.markDue = false) → i ≠ .xwait → (i = .samp → s.sampleDue = false) → t.env = s.env

theorem exec_frame (h : exec i s = .next t) : ExecFrame i s t := by
  cases i with
  | strbHi => rw [exec_strbHi_next h]; constructor <;> simp
  | clkHi => rw [exec_clkHi_next h]; constructor <;> simp
  | strbLo => rcases exec_strbLo_next h with ⟨-, rfl⟩ | ⟨-, rfl⟩ <;> constructor <;> simp
  | xmark =>
    rcases exec_xmark_next h with ⟨hp, hj, rfl⟩ | ⟨-, rfl⟩
    · have hd : s.markDue = true := s.markDue_iff.2 ⟨hp, hj⟩
      constructor <;> simp [hd]
    · constructor <;> simp
  | samp =>
    rcases exec_samp_next h with ⟨hp, hw, -, rfl⟩ | ⟨-, rfl⟩
    · have hd : s.sampleDue = true := s.sampleDue_iff.2 ⟨hp, hw⟩
      constructor <;> simp [hd]
    · constructor <;> simp
  | clkLo => rcases exec_clkLo_next h with ⟨-, rfl⟩ | ⟨-, -, rfl⟩ | ⟨-, -, rfl⟩ <;> constructor <;> simp
  | rend => rw [exec_rend_next h]; constructor <;> simp
  | xwait => rcases exec_xwait_next h with ⟨-, rfl⟩ | ⟨-, rfl⟩ <;> constructor <;> simp
  | flip => rw [exec_flip_next h]; constructor <;> simp

theorem State.tickNow_lt (s : State) : s.tickNow < s.config.tickMod := Nat.mod_lt _ s.config.tickMod_pos

/-- An operation leaves the frame buffer in its canonical form (R33, R54). -/
theorem exec_mem_wf (h : exec i s = .next t) (hm : Memory.wf s.config.toConfig s.fb = true) :
    Memory.wf t.config.toConfig t.fb = true := by
  by_cases hi : i = .samp
  · subst hi
    rcases exec_samp_next h with ⟨-, -, -, rfl⟩ | ⟨-, rfl⟩
    · exact Memory.write_wf hm _ s.sample_lt
    · exact hm
  · rw [(exec_frame h).config, (exec_frame h).fb fun hs => absurd hs hi]
    exact hm

/-- An operation leaves `EXPSTART` in its range (R24). -/
theorem exec_expStart_lt (h : exec i s = .next t) (he : s.expStart < s.config.tickMod) :
    t.expStart < t.config.tickMod := by
  by_cases hi : i = .xmark
  · subst hi
    rcases exec_xmark_next h with ⟨-, -, rfl⟩ | ⟨-, rfl⟩
    · exact s.tickNow_lt
    · exact he
  · rw [(exec_frame h).config, (exec_frame h).expStart fun hm => absurd hm hi]
    exact he

/-! ### From the operations to every step -/

/-- What every reset state has and every operation keeps is kept by every step. -/
theorem step_keeps {P : State → Prop} (hreset : ∀ c e, P (State.resetWith c e)) (htaken : ∀ s, P s → P s.rstTaken)
    (hexec : ∀ (i : Instr) (s t : State), P s → s.isAt i → exec i s = .next t → P t) :
    ∀ s t, P s → step s = .next t → P t := by
  intro s t hs h
  rcases step_cases h with ⟨-, rfl⟩ | ⟨-, i, hi, he⟩
  · exact hreset _ _
  · exact hexec i s.rstTaken t (htaken s hs) hi he

theorem step_config (h : step s = .next t) : t.config = s.config := by
  rcases step_cases h with ⟨-, rfl⟩ | ⟨-, i, -, he⟩
  · rfl
  · exact (exec_frame he).config

end Sys2Proof.Machine
end

section
/-! PROOFS. R40: where the sequencer stands says the pin levels, the write index and the place in the frame, one
operation at a time; and so does every reset state. -/

namespace Sys2Proof.Machine

variable {s t : State} {i : Instr}

/-! ### `Sequenced` at one operation -/

/-- The level of Clock while `i` is selected (R30). -/
def clockAt : Instr → Level
  | .strbLo | .xmark | .samp | .clkLo => true
  | .strbHi | .clkHi | .rend | .xwait | .flip => false

/-- The level of Strobe while `i` is selected with `J = j` (R29). -/
def strobeAt (j : Nat) : Instr → Level
  | .clkHi | .strbLo => j == 0
  | .strbHi | .xmark | .samp | .clkLo | .rend | .xwait | .flip => false

/-- `Sequenced` of a state in which `i` is selected, without the clauses that the others give. -/
structure State.SequencedAt (s : State) (i : Instr) : Prop where
  selected : s.isAt i
  j_range : s.j ≤ s.config.pixels - 1
  wrIdx : s.wrIdx = if s.inCapture then s.config.sampledBelow (pixelsDoneAt s.config.pixels s.j i) else 0
  clock : s.clock = clockAt i
  strobe : s.strobe = strobeAt s.j i
  tail_pixel : i = .rend ∨ i = .xwait ∨ i = .flip → s.j = s.config.pixels - 1
  wait_phase : i = .rend ∨ i = .xwait → s.phase = .awaitingExposure
  frame_begun : i ≠ .strbHi ∨ s.phase = .capturing → s.trace ≠ []
  mem_wf : Memory.wf s.config.toConfig s.fb = true
  expStart_range : s.expStart < s.config.tickMod

theorem clockAt_iff (i : Instr) : clockAt i = true ↔ i = .strbLo ∨ i = .xmark ∨ i = .samp ∨ i = .clkLo := by
  cases i <;> simp [clockAt]

theorem strobeAt_iff (j : Nat) (i : Instr) : strobeAt j i = true ↔ (i = .clkHi ∧ j = 0) ∨ (i = .strbLo ∧ j = 0) := by
  cases i <;> simp [strobeAt]

theorem State.Sequenced.at (h : s.Sequenced) (hs : s.isAt i) : s.SequencedAt i where
  selected := hs
  j_range := h.j_range
  wrIdx := by
    rw [← State.pixelsDone_of_isAt hs]
    cases hc : s.inCapture with
    | true => exact h.wrIdx_counts hc
    | false => exact h.wrIdx_idle hc
  clock := by
    rw [Bool.eq_iff_iff, h.clock_high, clockAt_iff]
    simp only [State.isAt_iff_of_isAt hs]
  strobe := by
    rw [Bool.eq_iff_iff, h.strobe_high, strobeAt_iff]
    simp only [State.isAt_iff_of_isAt hs]
  tail_pixel := by simpa only [State.isAt_iff_of_isAt hs] using h.tail_pixel
  wait_phase := by simpa only [State.isAt_iff_of_isAt hs] using h.wait_phase
  frame_begun := by simpa only [State.isAt_iff_of_isAt hs] using h.frame_begun
  mem_wf := h.mem_wf
  expStart_range := h.expStart_range

/-- No frame has more samples behind it than pixels in all. -/
theorem State.SequencedAt.pixelsDoneAt_le (h : s.SequencedAt i) :
    pixelsDoneAt s.config.pixels s.j i ≤ s.config.pixels := by
  have hj := h.j_range
  have hp := s.config.pixels_pos
  cases i with
  | strbHi => exact le_rfl
  | clkHi | strbLo | xmark | samp => exact hj.trans (Nat.sub_le ..)
  | clkLo | rend | xwait | flip => simp only [pixelsDoneAt]; omega

theorem State.SequencedAt.sequenced (h : s.SequencedAt i) : s.Sequenced where
  code_legal := by
    have hs : s.stepCode = encode i := h.selected
    simp [hs]
  j_range := h.j_range
  wrIdx_range := by
    rw [h.wrIdx]
    split
    · exact s.config.sampledBelow_mono h.pixelsDoneAt_le
    · exact Nat.zero_le _
  wrIdx_counts hc := by rw [h.wrIdx, hc, if_pos rfl, State.pixelsDone_of_isAt h.selected]
  wrIdx_idle hc := by rw [h.wrIdx, hc]; rfl
  clock_high := by
    rw [h.clock, clockAt_iff]
    simp only [State.isAt_iff_of_isAt h.selected]
  strobe_high := by
    rw [h.strobe, strobeAt_iff]
    simp only [State.isAt_iff_of_isAt h.selected]
  tail_pixel := by simpa only [State.isAt_iff_of_isAt h.selected] using h.tail_pixel
  wait_phase := by simpa only [State.isAt_iff_of_isAt h.selected] using h.wait_phase
  frame_begun := by simpa only [State.isAt_iff_of_isAt h.selected] using h.frame_begun
  mem_wf := h.mem_wf
  expStart_range := h.expStart_range

/-! ### Whether a Capturing frame is on (R40) -/

theorem State.inCapture_of_isAt_strbHi (hs : s.isAt .strbHi) :
    s.inCapture = (s.phase == .awaitingExposure && !s.trace.isEmpty) := if_pos hs

/-- An operation inside a frame, `FLIP` among them, leaves the frame a Capturing one or not. -/
theorem exec_inCapture (h : exec i s = .next t) (hs : s.isAt i) (hi : i ≠ .strbHi) (hb : s.trace ≠ []) :
    t.inCapture = s.inCapture := by
  rw [State.inCapture_of_ne hs hi]
  by_cases hf : i = .flip
  · subst hf
    rw [State.inCapture_of_isAt_strbHi (exec_isAt_successor h), exec_flip_next h]
    cases s.phase with
    | awaitingExposure => rfl
    | capturing => simp [Phase.flip, hb]
  · have hne : s.successor i ≠ .strbHi := mt (s.successor_eq_strbHi_iff i).1 hf
    rw [State.inCapture_of_ne (exec_isAt_successor h) hne, exec_phase_of_ne_flip h hf]

/-- The frame that `STRB_HI` begins is a Capturing one when the phase is. -/
theorem exec_strbHi_inCapture (h : exec .strbHi s = .next t) : t.inCapture = (s.phase == .capturing) := by
  rw [State.inCapture_of_ne (i := .clkHi) (exec_isAt_successor h) (by decide), exec_phase_of_ne_flip h (by decide)]

/-! ### The branches of `CLK_LO` in the table (R75) -/

theorem State.successor_clkLo_of_lt (s : State) (hj : s.j < s.config.pixels - 1) : s.successor .clkLo = .clkHi :=
  if_pos hj

theorem State.successor_clkLo_of_awaiting (s : State) (hj : ¬ s.j < s.config.pixels - 1)
    (hp : s.phase = .awaitingExposure) : s.successor .clkLo = .rend := by
  simp [State.successor, hj, hp]

theorem State.successor_clkLo_of_capturing (s : State) (hj : ¬ s.j < s.config.pixels - 1)
    (hp : s.phase = .capturing) : s.successor .clkLo = .flip := by
  simp [State.successor, hj, hp]

/-! ### One operation at a time (R22, R23, R29, R30, R75) -/

/-- The pixels done grow by one in `SAMP`, and only there within a frame. -/
theorem exec_pixelsDoneAt (h : exec i s = .next t) (hq : s.SequencedAt i) (hi : i ≠ .strbHi) (hm : i ≠ .samp) :
    pixelsDoneAt t.config.pixels t.j (s.successor i) = pixelsDoneAt s.config.pixels s.j i := by
  cases i with
  | strbHi => exact absurd rfl hi
  | samp => exact absurd rfl hm
  | clkHi | strbLo | xmark | rend => simp [State.successor, pixelsDoneAt, (exec_frame h).j]
  | clkLo =>
    rcases exec_clkLo_next h with ⟨hj, rfl⟩ | ⟨hj, hp, rfl⟩ | ⟨hj, hp, rfl⟩
    · rw [s.successor_clkLo_of_lt hj]; rfl
    · rw [s.successor_clkLo_of_awaiting hj hp]; rfl
    · rw [s.successor_clkLo_of_capturing hj hp]; rfl
  | xwait =>
    rcases exec_xwait_next h with ⟨hw, rfl⟩ | ⟨hw, rfl⟩ <;> simp [State.successor, pixelsDoneAt, hw]
  | flip =>
    have hj := hq.tail_pixel (.inr (.inr rfl))
    have hp := s.config.pixels_pos
    simp only [State.successor, pixelsDoneAt, (exec_frame h).config]
    omega

/-- `SAMP` counts its pixel in a Capturing frame when the pixel is in the window (R131). -/
theorem exec_samp_wrIdx (h : exec .samp s = .next t) (hq : s.SequencedAt .samp) :
    t.wrIdx = if s.inCapture then s.config.sampledBelow (s.j + 1) else 0 := by
  have hwr : s.wrIdx = if s.inCapture then s.config.sampledBelow s.j else 0 := hq.wrIdx
  rw [State.inCapture_of_ne hq.selected (by decide)] at hwr ⊢
  rcases exec_samp_next h with ⟨hp, hw, -, rfl⟩ | ⟨hn, rfl⟩
  · simpa [hp, hw, Config.sampledBelow_succ] using hwr
  · by_cases hp : s.phase = .capturing
    · have hw : s.config.inWindow s.j = false := by simpa [hp] using hn
      simpa [hp, hw, Config.sampledBelow_succ] using hwr
    · simpa [hp] using hwr

/-- R40's count of the write index after any operation. -/
theorem exec_wrIdx (h : exec i s = .next t) (hq : s.SequencedAt i) :
    t.wrIdx = if t.inCapture then
      t.config.sampledBelow (pixelsDoneAt t.config.pixels t.j (s.successor i)) else 0 := by
  by_cases hi : i = .strbHi
  · subst hi
    have hwr : t.wrIdx = 0 := by rw [exec_strbHi_next h]; rfl
    have hj : t.j = 0 := by rw [exec_strbHi_next h]; rfl
    simp [State.successor, pixelsDoneAt, hwr, hj]
  have hcap := exec_inCapture h hq.selected hi (hq.frame_begun (.inl hi))
  by_cases hm : i = .samp
  · subst hm
    rw [hcap, (exec_frame h).config, (exec_frame h).j (by decide) (by decide)]
    exact exec_samp_wrIdx h hq
  · rw [(exec_frame h).wrIdx hi fun hs => absurd hs hm, exec_pixelsDoneAt h hq hi hm, hcap, (exec_frame h).config]
    exact hq.wrIdx

theorem exec_clock (h : exec i s = .next t) (hc : s.clock = clockAt i) : t.clock = clockAt (s.successor i) := by
  cases i with
  | strbHi | strbLo | xmark | samp | rend | flip =>
    rw [(exec_frame h).clock (by decide) (by decide), hc]
    rfl
  | clkHi => rw [exec_clkHi_next h]; rfl
  | clkLo =>
    rcases exec_clkLo_next h with ⟨hj, rfl⟩ | ⟨hj, hp, rfl⟩ | ⟨hj, hp, rfl⟩
    · rw [s.successor_clkLo_of_lt hj]; rfl
    · rw [s.successor_clkLo_of_awaiting hj hp]; rfl
    · rw [s.successor_clkLo_of_capturing hj hp]; rfl
  | xwait =>
    rcases exec_xwait_next h with ⟨hw, rfl⟩ | ⟨hw, rfl⟩ <;> simpa [State.successor, clockAt, hw] using hc

theorem exec_strobe (h : exec i s = .next t) (hc : s.strobe = strobeAt s.j i) :
    t.strobe = strobeAt t.j (s.successor i) := by
  cases i with
  | strbHi => rw [exec_strbHi_next h]; rfl
  | clkHi | xmark | samp | rend | flip =>
    rw [(exec_frame h).strobe (by decide) (by decide), (exec_frame h).j (by decide) (by decide), hc]
    rfl
  | strbLo =>
    rcases exec_strbLo_next h with ⟨hj, rfl⟩ | ⟨hj, rfl⟩ <;> simp_all [State.successor, strobeAt]
  | clkLo =>
    rcases exec_clkLo_next h with ⟨hj, rfl⟩ | ⟨hj, hp, rfl⟩ | ⟨hj, hp, rfl⟩
    · rw [s.successor_clkLo_of_lt hj]
      simpa [strobeAt] using hc
    · rw [s.successor_clkLo_of_awaiting hj hp]
      simpa [strobeAt] using hc
    · rw [s.successor_clkLo_of_capturing hj hp]
      simpa [strobeAt] using hc
  | xwait =>
    rcases exec_xwait_next h with ⟨hw, rfl⟩ | ⟨hw, rfl⟩ <;> simpa [State.successor, strobeAt, hw] using hc

/-- The tail of a frame is entered from the last pulse and keeps `J` (R94). -/
theorem exec_tail_pixel (h : exec i s = .next t) (hq : s.SequencedAt i)
    (ht : s.successor i = .rend ∨ s.successor i = .xwait ∨ s.successor i = .flip) : t.j = t.config.pixels - 1 := by
  rw [(exec_frame h).config]
  cases i with
  | strbHi | clkHi | strbLo | xmark | samp | flip => simp [State.successor] at ht
  | clkLo =>
    have hj := hq.j_range
    rcases exec_clkLo_next h with ⟨hlt, rfl⟩ | ⟨hge, -, rfl⟩ | ⟨hge, -, rfl⟩
    · simp [s.successor_clkLo_of_lt hlt] at ht
    · exact Nat.le_antisymm hj (Nat.le_of_not_lt hge)
    · exact Nat.le_antisymm hj (Nat.le_of_not_lt hge)
  | rend | xwait =>
    rw [(exec_frame h).j (by decide) (by decide)]
    exact hq.tail_pixel (by decide)

/-- `REND` and `XWAIT` follow the last pulse of an AwaitingExposure frame only (R94). -/
theorem exec_wait_phase (h : exec i s = .next t) (hq : s.SequencedAt i)
    (ht : s.successor i = .rend ∨ s.successor i = .xwait) : t.phase = .awaitingExposure := by
  cases i with
  | strbHi | clkHi | strbLo | xmark | samp | flip => simp [State.successor] at ht
  | clkLo =>
    rcases exec_clkLo_next h with ⟨hlt, rfl⟩ | ⟨hge, hp, rfl⟩ | ⟨hge, hp, rfl⟩
    · simp [s.successor_clkLo_of_lt hlt] at ht
    · exact hp
    · simp [s.successor_clkLo_of_capturing hge hp] at ht
  | rend | xwait =>
    rw [exec_phase_of_ne_flip h (by decide)]
    exact hq.wait_phase (by decide)

/-- After any operation something stands in the trace. -/
theorem exec_trace_ne_nil (h : exec i s = .next t) (hq : s.SequencedAt i) : t.trace ≠ [] := by
  rw [exec_trace h]
  by_cases hi : i = .strbHi
  · subst hi
    simp [State.events]
  · simp [hq.frame_begun (.inl hi)]

theorem State.SequencedAt.of_exec (hq : s.SequencedAt i) (h : exec i s = .next t) :
    t.SequencedAt (s.successor i) where
  selected := exec_isAt_successor h
  j_range := by
    by_cases hc : i = .clkLo
    · subst hc
      rw [(exec_frame h).config]
      exact exec_clkLo_j_le hq.j_range h
    · by_cases hs : i = .strbHi
      · subst hs
        rw [exec_strbHi_next h]
        exact Nat.zero_le _
      · rw [(exec_frame h).j hs hc, (exec_frame h).config]
        exact hq.j_range
  wrIdx := exec_wrIdx h hq
  clock := exec_clock h hq.clock
  strobe := exec_strobe h hq.strobe
  tail_pixel := exec_tail_pixel h hq
  wait_phase := exec_wait_phase h hq
  frame_begun _ := exec_trace_ne_nil h hq
  mem_wf := exec_mem_wf h hq.mem_wf
  expStart_range := exec_expStart_lt h hq.expStart_range

theorem State.Sequenced.of_exec (hq : s.Sequenced) (hs : s.isAt i) (h : exec i s = .next t) : t.Sequenced :=
  ((hq.at hs).of_exec h).sequenced

theorem State.Sequenced.rstTaken (h : s.Sequenced) : s.rstTaken.Sequenced := { h with }

theorem State.resetWith_sequenced (c : ValidConfig) (e : Environment) : (State.resetWith c e).Sequenced :=
  State.SequencedAt.sequenced (i := .strbHi) {
    selected := rfl
    j_range := Nat.zero_le _
    wrIdx := rfl
    clock := rfl
    strobe := rfl
    tail_pixel := by simp
    wait_phase := by simp
    frame_begun := by simp
    mem_wf := State.resetWith_fb_wf c e
    expStart_range := State.resetWith_expStart_lt c e c.tickMod_pos }

theorem State.Sequenced.of_step (hq : s.Sequenced) (h : step s = .next t) : t.Sequenced :=
  step_keeps State.resetWith_sequenced (fun _ => State.Sequenced.rstTaken) (fun _ _ _ => State.Sequenced.of_exec)
    s t hq h

/-- Settles O24: every reset state meets the invariant, and each clause follows the operation's entry in R75's
successor table. -/
theorem stepKeepsSequenced : Obligations.StepKeepsSequenced := by
  unfold Obligations.StepKeepsSequenced
  exact fun s t => State.Sequenced.of_step

end Sys2Proof.Machine
end

section
/-! PROOFS. The configuration (R9 to R12) and the arithmetic of the tick counter (R112, R117). -/

namespace Sys2Proof

/-! ### The tick difference (R112, D13) -/

theorem Config.tsub_eq_ite (c : Config) {a b : Nat} (ha : a < c.tickMod) (hb : b < c.tickMod) :
    c.tsub a b = if b ≤ a then a - b else a + c.tickMod - b := by
  unfold Config.tsub
  split
  · next hle =>
    rw [Nat.sub_add_comm hle, Nat.add_mod_right, Nat.mod_eq_of_lt (by omega)]
  · next hlt => exact Nat.mod_eq_of_lt (by omega)

/-- The difference of the readings at two times in order is the time between them, modulo the counter's (R117). -/
theorem Config.tsub_mod_mod (c : Config) (hM : 0 < c.tickMod) {t0 t : Nat} (h : t0 ≤ t) :
    c.tsub (t % c.tickMod) (t0 % c.tickMod) = (t - t0) % c.tickMod := by
  obtain ⟨d, rfl⟩ := Nat.exists_eq_add_of_le h
  have hr := Nat.mod_lt t0 hM
  have hd := Nat.mod_lt d hM
  rw [Config.tsub_eq_ite c (Nat.mod_lt _ hM) hr, Nat.add_sub_cancel_left, Nat.add_mod_eq_ite]
  split <;> split <;> omega

theorem Config.tsub_mod_mod_le (c : Config) (hM : 0 < c.tickMod) {t0 t : Nat} (h : t0 ≤ t) :
    c.tsub (t % c.tickMod) (t0 % c.tickMod) ≤ t - t0 := by
  rw [c.tsub_mod_mod hM h]
  exact Nat.mod_le _ _

/-- Settles O44: below `TICK_MOD` the sum in `tsub` wraps exactly when `b ≤ a`, and for a power of two it is the
subtraction of bit vectors by definition. -/
theorem tickDifferenceForms : Obligations.TickDifferenceForms := by
  unfold Obligations.TickDifferenceForms
  intro c a b ha hb
  refine ⟨c.tsub_lt (Nat.zero_lt_of_lt ha) a b, c.tsub_eq_ite ha hb, fun w hw => ?_⟩
  rw [hw] at ha hb
  rw [Config.tsub, hw, BitVec.toNat_sub, BitVec.toNat_ofNat, BitVec.toNat_ofNat, Nat.mod_eq_of_lt ha,
    Nat.mod_eq_of_lt hb]
  congr 1
  omega

/-- Settles O45: the difference of two readings is the elapsed time modulo `TICK_MOD`. -/
theorem tickDifferenceNeverExceedsElapsedTime : Obligations.TickDifferenceNeverExceedsElapsedTime := by
  unfold Obligations.TickDifferenceNeverExceedsElapsedTime
  intro c t0 t hM h
  exact ⟨c.tsub_mod_mod hM h, c.tsub_mod_mod_le hM h, fun hlap => by rw [c.tsub_mod_mod hM h, Nat.mod_eq_of_lt hlap]⟩

/-! ### The closed form of `SAMPLE_COUNT` (R12) -/

/-- Indices outside the window do not count. -/
theorem Config.sampledBelow_eq_of_forall (c : Config) {m n : Nat} (hmn : m ≤ n)
    (hout : ∀ j, m ≤ j → j < n → ¬ c.inWindow j = true) : c.sampledBelow n = c.sampledBelow m := by
  induction n, hmn using Nat.le_induction with
  | base => rfl
  | succ n hn ih =>
    rw [Config.sampledBelow_succ, if_neg (hout n hn (Nat.lt_succ_self n)), Nat.add_zero]
    exact ih fun j hj hlt => hout j hj (Nat.lt_succ_of_lt hlt)

theorem Config.sampleCount_eq_zero (c : Config) (h : min (c.pixels - c.winN) (c.pixels - 1) < c.winN) :
    c.sampleCount = 0 := by
  refine c.sampledBelow_eq_of_forall (Nat.zero_le _) fun j _ hj hw => ?_
  obtain ⟨hlo, hhi, -⟩ := (c.inWindow_iff j).1 hw
  omega

/-- A window that is not empty ends at its last index, `min(PIXELS - WIN_N, PIXELS - 1)`. -/
theorem Config.sampleCount_eq_succ (c : Config) (hp : 1 ≤ c.pixels) (hM : 1 ≤ c.winM)
    (h : c.winN ≤ min (c.pixels - c.winN) (c.pixels - 1)) :
    c.sampleCount = (min (c.pixels - c.winN) (c.pixels - 1) - c.winN) / c.winM + 1 := by
  have hcut : c.sampleCount = c.sampledBelow (min (c.pixels - c.winN) (c.pixels - 1) + 1) := by
    refine c.sampledBelow_eq_of_forall (by omega) fun j hj hlt hw => ?_
    obtain ⟨-, hhi, -⟩ := (c.inWindow_iff j).1 hw
    omega
  rw [hcut, Config.sampledBelow_eq_ceil hM (by omega), ← Nat.add_div_right _ hM]
  congr 1
  omega

/-- Settles O42: the indices after the window's last one do not count, and up to there the count is the ceiling of
R132's division. -/
theorem sampleCountClosedForm : Obligations.SampleCountClosedForm := by
  unfold Obligations.SampleCountClosedForm
  refine ⟨fun c hc => ?_, Config.hw_sampleCount, fun s t h => ?_⟩
  · split
    · exact c.sampleCount_eq_zero (by omega)
    · split
      · next hlt => exact c.sampleCount_eq_zero hlt
      · next hge =>
        exact c.sampleCount_eq_succ (ValidConfig.mk c hc).pixels_pos (ValidConfig.mk c hc).winM_pos
          (Nat.le_of_not_lt hge)
  · rw [Machine.step_config h]

end Sys2Proof

namespace Sys2Proof.Machine

/-! ### Building a machine (R11, R166) -/

theorem instantiate_of_valid {c : Config} (h : c.firstViolated = none) (e : Environment) :
    instantiate c e = .next (State.resetWith ⟨c, h⟩ e) := by
  unfold instantiate
  split
  · rfl
  · next hc => exact absurd (h.symm.trans hc) (by simp)

theorem instantiate_of_violated {c : Config} {clause : Clause} (h : c.firstViolated = some clause) (e : Environment) :
    instantiate c e = .refused (.invalidConfig clause) := by
  unfold instantiate
  split
  · next hc => exact absurd (h.symm.trans hc) (by simp)
  · next k hc => rw [Option.some.inj (h.symm.trans hc)]

/-- The named clause is broken. -/
theorem meets_of_firstViolated {c : Config} {clause : Clause} (h : c.firstViolated = some clause) :
    c.meets clause = false := by
  simpa using List.find?_some h

theorem meets_v5_iff (c : Config) :
    c.meets .v5 = true ↔ 1 ≤ c.ticksPerUs ∧ c.exposureUs * c.ticksPerUs < c.tickMod ∧ 2 ≤ c.tickMod := by
  rw [← Config.expTicks]
  simp [Config.meets, and_assoc]

/-- A configuration is valid when it meets the seven clauses of R11's table, written out. -/
theorem firstViolated_eq_none_iff (c : Config) :
    c.firstViolated = none ↔
      1 ≤ c.pixels ∧ 1 ≤ c.winM ∧ c.sampleCount ≤ c.lineWidth ∧ c.cue ≤ c.pixels - 1 ∧
        (1 ≤ c.ticksPerUs ∧ c.exposureUs * c.ticksPerUs < c.tickMod ∧ 2 ≤ c.tickMod) ∧
        c.adcMax < 2 ^ c.sampleW ∧ 1 ≤ c.lineWidth := by
  constructor
  · intro h
    obtain ⟨v, rfl⟩ : ∃ v : ValidConfig, v.toConfig = c := ⟨⟨c, h⟩, rfl⟩
    exact ⟨v.pixels_pos, v.winM_pos, v.sampleCount_le, v.cue_le, (meets_v5_iff _).1 (v.meets .v5), v.adcMax_lt,
      v.lineWidth_pos⟩
  · rintro ⟨h1, h2, h3, h4, h5, h6, h7⟩
    refine Config.firstViolated_eq_none.2 fun clause => ?_
    cases clause with
    | v5 => exact (meets_v5_iff c).2 h5
    | v1 | v2 | v3 | v4 | v6 | v7 => simp [Config.meets, *]

/-- Settles O7: the clauses of R11 written out are those that `instantiate` looks through. -/
theorem invalidConfigurationIsRefused : Obligations.InvalidConfigurationIsRefused := by
  unfold Obligations.InvalidConfigurationIsRefused
  refine ⟨fun c e h => ?_, fun c e h => ?_, fun c => ?_⟩
  · have hv := (firstViolated_eq_none_iff c).2 h
    exact ⟨_, instantiate_of_valid hv e, rfl, ⟨c, hv⟩, e, rfl⟩
  · obtain ⟨clause, hc⟩ := Option.ne_none_iff_exists'.1 (mt (firstViolated_eq_none_iff c).1 h)
    exact ⟨clause, instantiate_of_violated hc e, meets_of_firstViolated hc⟩
  · refine ⟨?_, ?_, ?_, ?_, meets_v5_iff c, ?_, ?_⟩ <;> simp [Config.meets]

/-- Settles O8: the hardware's constants by definition, and clause V5 for the two that the platform leaves free. -/
theorem hardwareInstanceConstants : Obligations.HardwareInstanceConstants := by
  unfold Obligations.HardwareInstanceConstants
  refine ⟨rfl, rfl, rfl, rfl, rfl, rfl, rfl, rfl, rfl, ?_⟩
  exact State.reset.config.tick_clause.1

end Sys2Proof.Machine
end

section
/-! PROOFS. R95 and R96: the pin events of the current frame are those due where the frame stands. -/

namespace Sys2Proof.Machine

variable {s t : State} {i : Instr}

/-! ### The pins of the current frame -/

theorem exec_framePins (h : exec i s = .next t) (hi : i ≠ .strbHi) :
    t.framePins = s.framePins ++ (s.events i).filter Event.isPin := by
  rw [State.framePins, exec_currentFrame h hi, List.filter_append, State.framePins]

theorem exec_strbHi_framePins (h : exec .strbHi s = .next t) : t.framePins = [.strobeSet true] := by
  rw [State.framePins, exec_strbHi_currentFrame h]
  rfl

theorem filter_isPin_strobeFall (j : Nat) : (strobeFall j).filter Event.isPin = strobeFall j := by
  by_cases hj : j = 0 <;> simp [strobeFall, hj, Event.isPin]

/-- The pins due after an operation are those due before it and the ones it makes (R92 to R94). -/
theorem exec_pinsDueAt (h : exec i s = .next t) (hq : s.SequencedAt i) (hi : i ≠ .strbHi) :
    pinsDueAt t.config.pixels t.j (s.successor i) =
      pinsDueAt s.config.pixels s.j i ++ (s.events i).filter Event.isPin := by
  cases i with
  | strbHi => exact absurd rfl hi
  | clkHi =>
    rw [(exec_frame h).j (by decide) (by decide)]
    rfl
  | strbLo =>
    rw [(exec_frame h).j (by decide) (by decide)]
    simp [State.successor, pinsDueAt, State.events, filter_isPin_strobeFall]
  | xmark =>
    rw [(exec_frame h).j (by decide) (by decide)]
    by_cases hd : s.markDue = true <;> simp [State.successor, pinsDueAt, State.events, hd, Event.isPin]
  | samp =>
    rw [(exec_frame h).j (by decide) (by decide)]
    by_cases hd : s.sampleDue = true <;> simp [State.successor, pinsDueAt, State.events, hd, Event.isPin]
  | clkLo =>
    have hpulse : scanPins (s.j + 1) = pinsDueAt s.config.pixels s.j .clkLo ++ [.clockSet false] := by
      simp [scanPins_succ, pulsePins, pinsDueAt]
    rcases exec_clkLo_next h with ⟨hj, rfl⟩ | ⟨hj, hp, rfl⟩ | ⟨hj, hp, rfl⟩
    · rw [s.successor_clkLo_of_lt hj]
      exact hpulse
    · rw [s.successor_clkLo_of_awaiting hj hp]
      exact hpulse
    · rw [s.successor_clkLo_of_capturing hj hp]
      exact hpulse
  | rend =>
    rw [(exec_frame h).j (by decide) (by decide)]
    simp [State.successor, pinsDueAt, State.events, Event.isPin]
  | xwait =>
    rcases exec_xwait_next h with ⟨hw, rfl⟩ | ⟨hw, rfl⟩ <;>
      simp [State.successor, pinsDueAt, State.events, Event.isPin, hw]
  | flip =>
    have hp : s.j + 1 = s.config.pixels := by
      rw [hq.tail_pixel (.inr (.inr rfl)), Nat.sub_add_cancel s.config.pixels_pos]
    rw [(exec_frame h).config]
    simp [State.successor, pinsDueAt, State.events, hp]

/-- A frame that `STRB_HI` begins has made its first pin event, whatever the frame before it did. -/
theorem State.PinsTraced.of_strbHi (hq : s.Sequenced) (hs : s.isAt .strbHi) (h : exec .strbHi s = .next t) :
    t.PinsTraced where
  sequenced := hq.of_exec hs h
  pins := by
    refine .inr ?_
    rw [exec_strbHi_framePins h, State.pinsDue_of_isAt (i := .clkHi) (exec_isAt_successor h), exec_strbHi_next h]
    rfl

/-- Inside a frame the traced pins are those due. -/
theorem State.PinsTraced.framePins_eq (h : s.PinsTraced) (hs : s.isAt i) (hi : i ≠ .strbHi) :
    s.framePins = pinsDueAt s.config.pixels s.j i := by
  rcases h.pins with ⟨hstart, -⟩ | hpins
  · exact absurd ((State.isAt_iff_of_isAt hs _).1 hstart) hi
  · rw [hpins, State.pinsDue_of_isAt hs]

theorem State.PinsTraced.of_exec (h : s.PinsTraced) (hs : s.isAt i) (he : exec i s = .next t) : t.PinsTraced := by
  by_cases hi : i = .strbHi
  · subst hi
    exact .of_strbHi h.sequenced hs he
  refine ⟨h.sequenced.of_exec hs he, .inr ?_⟩
  rw [exec_framePins he hi, h.framePins_eq hs hi, State.pinsDue_of_isAt (exec_isAt_successor he),
    exec_pinsDueAt he (h.sequenced.at hs) hi]

theorem State.PinsTraced.rstTaken (h : s.PinsTraced) : s.rstTaken.PinsTraced := ⟨h.sequenced.rstTaken, h.pins⟩

theorem State.resetWith_pinsTraced (c : ValidConfig) (e : Environment) : (State.resetWith c e).PinsTraced :=
  ⟨State.resetWith_sequenced c e, .inl ⟨rfl, rfl⟩⟩

/-- Settles O26: each operation makes the pin events that its successor's position has more than its own. -/
theorem stepKeepsPinsTraced : Obligations.StepKeepsPinsTraced := by
  unfold Obligations.StepKeepsPinsTraced
  exact step_keeps State.resetWith_pinsTraced (fun _ => State.PinsTraced.rstTaken) fun _ _ _ => State.PinsTraced.of_exec

/-! ### What the invariant says of a frame -/

/-- The pins of a scan of `n + 1` pulses, written out (R95). -/
theorem scanPins_eq (n : Nat) :
    scanPins (n + 1) = [.strobeSet true, .clockSet true, .strobeSet false, .clockSet false] ++
      (List.replicate n [.clockSet true, .clockSet false]).flatten := by
  induction n with
  | zero => rfl
  | succ n ih =>
    rw [scanPins_succ, ih, List.replicate_succ', List.flatten_append]
    simp [pulsePins, strobeFall_of_ne (Nat.succ_ne_zero n)]

theorem scanPins_length (n : Nat) : (scanPins (n + 1)).length = 2 * n + 4 := by
  rw [scanPins_eq]
  simp
  omega

theorem count_scanPins_clock (n : Nat) (l : Level) : (scanPins n).count (.clockSet l) = n := by
  induction n with
  | zero => cases l <;> decide
  | succ n ih =>
    rw [scanPins_succ, List.count_append, ih]
    by_cases hn : n = 0 <;> cases l <;> simp [pulsePins, strobeFall, hn]

/-- At the end of a frame, before `FLIP` and after it, the pins of the whole scan have been made. -/
theorem State.PinsTraced.framePins_whole (h : s.PinsTraced) (hs : s.isAt .flip ∨ (s.isAt .strbHi ∧ s.trace ≠ [])) :
    s.framePins = scanPins (s.config.pixels - 1 + 1) := by
  rcases hs with hs | ⟨hs, htr⟩
  · rw [h.framePins_of_isAt_flip hs, (h.sequenced.at hs).tail_pixel (by decide)]
  · rcases h.pins with ⟨-, hnil⟩ | hpins
    · exact absurd hnil htr
    · rw [hpins, State.pinsDue_of_isAt hs, pinsDueAt, Nat.sub_add_cancel s.config.pixels_pos]

/-- Settles O32: at both places the pins due are those of a scan of `PIXELS` pulses. -/
theorem wholeFramePinTrace : Obligations.WholeFramePinTrace := by
  unfold Obligations.WholeFramePinTrace
  intro s h hs
  rw [h.framePins_whole hs]
  refine ⟨scanPins_eq _, ?_⟩
  rw [scanPins_length]
  have := s.config.pixels_pos
  omega

/-- Settles O33: a scan of `n` pulses has `n` rises and `n` falls of Clock, and the position says how far the pulse in
progress is. -/
theorem pulseTracking : Obligations.PulseTracking := by
  unfold Obligations.PulseTracking
  intro s h hne
  obtain ⟨i, hs⟩ := State.exists_isAt h.sequenced
  have hi : i ≠ .strbHi := fun hi => hne (hi ▸ hs)
  have hfall : ∀ l, (strobeFall s.j).count (.clockSet l) = 0 := fun l => by
    by_cases hj : s.j = 0 <;> simp [strobeFall, hj]
  rw [h.framePins_eq hs hi, (h.sequenced.at hs).clock]
  simp only [State.isAt_iff_of_isAt hs]
  cases i with
  | strbHi => exact absurd rfl hi
  | clkHi | rend | xwait | flip => simp [pinsDueAt, clockAt, count_scanPins_clock]
  | strbLo | xmark | samp | clkLo => simp [pinsDueAt, clockAt, count_scanPins_clock, hfall]

end Sys2Proof.Machine
end

section
/-! PROOFS. R111, R114 and R117: the mark of a frame, the tick reads of a frame and the time since the mark. -/

namespace Sys2Proof.Machine

variable {s t : State} {i : Instr}

/-! ### Where the mark is taken -/

/-- Where in an AwaitingExposure frame the mark has been taken: with `i` selected and `J = j` (R111). -/
def markedAt (cue j : Nat) : Instr → Prop
  | .strbHi => False
  | .clkHi | .strbLo | .xmark => cue < j
  | .samp | .clkLo | .rend | .xwait | .flip => cue ≤ j

theorem State.marked_iff (hs : s.isAt i) :
    s.Marked ↔ s.phase = .awaitingExposure ∧ markedAt s.config.cue s.j i := by
  unfold State.Marked
  simp only [State.isAt_iff_of_isAt hs]
  cases i <;> simp [markedAt]

/-- Within a frame the mark is taken in the `XMARK` where it is due, and nowhere else. -/
theorem exec_marked_iff (h : exec i s = .next t) (hs : s.isAt i) (hi : i ≠ .flip) :
    t.Marked ↔ s.Marked ∨ (i = .xmark ∧ s.markDue = true) := by
  rw [State.marked_iff (exec_isAt_successor h), State.marked_iff hs, exec_phase_of_ne_flip h hi, (exec_frame h).config]
  cases i with
  | strbHi => rw [exec_strbHi_next h]; simp [State.successor, markedAt]
  | clkHi | strbLo | samp | rend => simp [State.successor, markedAt, (exec_frame h).j]
  | xmark =>
    simp only [State.successor, markedAt, (exec_frame h).j (by decide) (by decide), s.markDue_iff, true_and,
      Nat.le_iff_lt_or_eq, and_or_left, eq_comm (a := s.j)]
  | clkLo =>
    rcases exec_clkLo_next h with ⟨hj, rfl⟩ | ⟨hj, hp, rfl⟩ | ⟨hj, hp, rfl⟩
    · simp [s.successor_clkLo_of_lt hj, markedAt]
    · simp [s.successor_clkLo_of_awaiting hj hp, markedAt]
    · simp [hp]
  | xwait =>
    rcases exec_xwait_next h with ⟨hw, rfl⟩ | ⟨hw, rfl⟩ <;> simp [State.successor, markedAt, hw]
  | flip => exact absurd rfl hi

theorem State.not_marked_of_isAt_strbHi (hs : s.isAt .strbHi) : ¬ s.Marked := fun hm =>
  ((State.marked_iff hs).1 hm).2

theorem exec_flip_not_marked (h : exec .flip s = .next t) : ¬ t.Marked :=
  State.not_marked_of_isAt_strbHi (exec_isAt_successor h)

/-- In the tail of an AwaitingExposure frame the mark has been taken, since `CUE` is a pixel (R11 clause V4). -/
theorem State.SequencedAt.marked_of_tail (hq : s.SequencedAt i) (hi : i = .rend ∨ i = .xwait ∨ i = .flip)
    (hp : s.phase = .awaitingExposure) : s.Marked := by
  have hcue : s.config.cue ≤ s.j := hq.tail_pixel hi ▸ s.config.cue_le
  rw [State.marked_iff hq.selected]
  rcases hi with rfl | rfl | rfl <;> exact ⟨hp, hcue⟩

/-! ### The unwrapped time and the mark (R114, R175) -/

/-- The counter's time never runs back (R175). -/
theorem exec_time_le (h : exec i s = .next t) : s.env.time ≤ t.env.time := by
  by_cases hx : i = .xwait
  · subst hx
    rcases exec_xwait_next h with ⟨-, rfl⟩ | ⟨-, rfl⟩ <;> exact Nat.le_add_right ..
  · by_cases hm : i = .xmark → s.markDue = false
    · exact ((exec_frame h).time hm hx).ge
    · obtain ⟨rfl, -⟩ := Classical.not_imp.1 hm
      rcases exec_xmark_next h with ⟨-, -, rfl⟩ | ⟨-, rfl⟩
      · exact Nat.le_add_right ..
      · exact le_rfl

/-- A due `XMARK` keeps the read and its unwrapped time. -/
theorem exec_xmark_due (h : exec .xmark s = .next t) (hd : s.markDue = true) :
    t.env.markTime = t.env.time ∧ t.expStart = t.env.markTime % t.config.tickMod ∧ t.expStart = s.tickNow := by
  rcases exec_xmark_next h with ⟨-, -, rfl⟩ | ⟨hn, -⟩
  · exact ⟨rfl, rfl, rfl⟩
  · exact absurd (s.markDue_iff.1 hd) hn

/-! ### R117 -/

/-- The read that ends the wait comes at least `EXP_TICKS` after the mark (R117). -/
theorem State.ExposureTimed.wait_long_enough (h : s.ExposureTimed) (hs : s.isAt .xwait)
    (hw : s.config.expTicks ≤ s.config.tsub s.tickNow s.expStart) :
    s.env.markTime + s.config.expTicks ≤ s.tickTime := by
  have hq := h.sequenced.at hs
  obtain ⟨hle, hmark⟩ := h.mark_held (hq.marked_of_tail (by decide) (hq.wait_phase (by decide)))
  have htime : s.env.markTime ≤ s.tickTime := hle.trans (Nat.le_add_right ..)
  have hsub := s.config.tsub_mod_mod_le s.config.tickMod_pos htime
  rw [← hmark] at hsub
  have := hw.trans hsub
  omega

theorem State.ExposureTimed.of_exec (h : s.ExposureTimed) (hs : s.isAt i) (he : exec i s = .next t) :
    t.ExposureTimed where
  sequenced := h.sequenced.of_exec hs he
  mark_held hm := by
    by_cases hi : i = .flip
    · subst hi
      exact absurd hm (exec_flip_not_marked he)
    by_cases hdue : i = .xmark ∧ s.markDue = true
    · obtain ⟨rfl, hd⟩ := hdue
      obtain ⟨htime, hexp, -⟩ := exec_xmark_due he hd
      exact ⟨htime.le, hexp⟩
    · have hnot : i = .xmark → s.markDue = false := fun hx => by simpa [hx] using hdue
      obtain ⟨hle, hexp⟩ := h.mark_held (((exec_marked_iff he hs hi).1 hm).resolve_right hdue)
      rw [(exec_frame he).markTime hnot, (exec_frame he).expStart hnot, (exec_frame he).config]
      exact ⟨hle.trans (exec_time_le he), hexp⟩
  exposed hx := by
    by_cases hpre : (s.isAt .flip ∧ s.phase = .awaitingExposure) ∨ s.phase = .capturing
    · have hnot : i = .xmark → s.markDue = false := by
        rintro rfl
        rcases hpre with ⟨hf, -⟩ | hp
        · exact absurd ((State.isAt_iff_of_isAt hs _).1 hf) (by decide)
        · simp [State.markDue, hp]
      rw [(exec_frame he).markTime hnot, (exec_frame he).config]
      exact (h.exposed hpre).trans (exec_time_le he)
    · obtain ⟨hflip, hp⟩ := not_or.1 hpre
      have hi : i ≠ .flip := fun hi => hflip ⟨hi ▸ hs, by simpa [Phase.eq_capturing_iff] using hp⟩
      rw [exec_phase_of_ne_flip he hi] at hx
      have hsucc := (exec_isAt_iff he .flip).1 (hx.resolve_right hp).1
      rcases (s.successor_eq_flip_iff i).1 hsucc with ⟨rfl, hw⟩ | ⟨-, -, hc⟩
      · have hlong := h.wait_long_enough hs hw
        rcases exec_xwait_next he with ⟨-, rfl⟩ | ⟨hn, -⟩
        · exact hlong
        · exact absurd hw hn
      · exact absurd hc hp

theorem State.ExposureTimed.rstTaken (h : s.ExposureTimed) : s.rstTaken.ExposureTimed :=
  ⟨h.sequenced.rstTaken, h.mark_held, h.exposed⟩

theorem State.resetWith_exposureTimed (c : ValidConfig) (e : Environment) : (State.resetWith c e).ExposureTimed where
  sequenced := State.resetWith_sequenced c e
  mark_held hm := absurd hm (State.not_marked_of_isAt_strbHi rfl)
  exposed hx := by simp [State.isAt] at hx

/-- Settles O27: the mark's time changes only with `EXPSTART`, time never runs back, and the wait ends by a read whose
difference from the mark does not exceed the time that has passed. -/
theorem stepKeepsExposureTimed : Obligations.StepKeepsExposureTimed := by
  unfold Obligations.StepKeepsExposureTimed
  exact step_keeps State.resetWith_exposureTimed (fun _ => State.ExposureTimed.rstTaken) fun _ _ _ =>
    State.ExposureTimed.of_exec

/-- Settles O34: the step is `XWAIT` by R75's table, and its comparison bounds the unwrapped time from below. -/
theorem waitNeverEndsEarly : Obligations.WaitNeverEndsEarly := by
  unfold Obligations.WaitNeverEndsEarly
  intro s t h hr hstep hflip hp
  rcases step_cases hstep with ⟨hr', -⟩ | ⟨-, i, hs, he⟩
  · exact absurd (hr.symm.trans hr') (by decide)
  have hs' : s.isAt i := hs
  rcases (State.successor_eq_flip_iff _ i).1 ((exec_isAt_iff he .flip).1 hflip) with ⟨rfl, hw⟩ | ⟨rfl, -, hc⟩
  · rcases exec_xwait_next he with ⟨-, rfl⟩ | ⟨hn, -⟩
    · exact ⟨hs, hw, rfl, h.wait_long_enough hs hw⟩
    · exact absurd hw hn
  · rw [exec_phase_of_ne_flip he (by decide), hc] at hp
    exact absurd hp (by decide)

/-! ### The tick reads of a frame (R111) -/

theorem tickValues_append (xs ys : List Event) : tickValues (xs ++ ys) = tickValues xs ++ tickValues ys :=
  List.filterMap_append

theorem exec_frameTicks (h : exec i s = .next t) (hi : i ≠ .strbHi) :
    t.frameTicks = s.frameTicks ++ tickValues (s.events i) := by
  rw [State.frameTicks, exec_currentFrame h hi, tickValues_append, State.frameTicks]

/-- Only a due `XMARK` and `XWAIT` read the counter. -/
theorem State.tickValues_events (s : State) (hw : i ≠ .xwait) :
    tickValues (s.events i) = if i = .xmark ∧ s.markDue = true then [s.tickNow] else [] := by
  have h := s.emits i
  generalize s.events i = evs at h ⊢
  cases h <;> simp_all [tickValues]

/-- Where the mark is due it has not been taken before. -/
theorem State.not_marked_of_markDue (hs : s.isAt .xmark) (hd : s.markDue = true) : ¬ s.Marked := fun hm =>
  Nat.lt_irrefl _ ((s.markDue_iff.1 hd).2 ▸ ((State.marked_iff hs).1 hm).2)

/-- The reads of a frame so far, where it is neither waiting nor has waited: the mark once it is taken, and no other
read. -/
def State.ScanTicks (s : State) : Prop :=
  (s.Marked → s.frameTicks = [s.expStart]) ∧ (¬ s.Marked → s.frameTicks = [])

/-- The operations of a scan, and `REND`, keep the frame's reads what R111 says. -/
theorem State.ScanTicks.of_exec (h : s.ScanTicks) (hs : s.isAt i) (he : exec i s = .next t) (hi : i ≠ .strbHi)
    (hw : i ≠ .xwait) (hf : i ≠ .flip) : t.ScanTicks := by
  unfold State.ScanTicks
  rw [exec_marked_iff he hs hf, exec_frameTicks he hi, s.tickValues_events hw]
  by_cases hdue : i = .xmark ∧ s.markDue = true
  · obtain ⟨rfl, hd⟩ := hdue
    rw [h.2 (State.not_marked_of_markDue hs hd), (exec_xmark_due he hd).2.2]
    simp [hd]
  · have hnot : i = .xmark → s.markDue = false := fun hx => by simpa [hx] using hdue
    rw [if_neg hdue, List.append_nil, (exec_frame he).expStart hnot, or_iff_left hdue]
    exact h

/-- The scan that `STRB_HI` begins has read nothing, whatever the frame before it did. -/
theorem exec_strbHi_scanTicks (h : exec .strbHi s = .next t) (hs : s.isAt .strbHi) : t.ScanTicks := by
  have hm : ¬ t.Marked := fun hm => by
    rcases (exec_marked_iff h hs (by decide)).1 hm with hm | ⟨hx, -⟩
    · exact State.not_marked_of_isAt_strbHi hs hm
    · exact absurd hx (by decide)
  refine ⟨fun h => absurd h hm, fun _ => ?_⟩
  rw [State.frameTicks, exec_strbHi_currentFrame h]
  rfl

theorem State.successor_clkLo_ne_xwait (s : State) : s.successor .clkLo ≠ .xwait := by
  by_cases hj : s.j < s.config.pixels - 1
  · simp [s.successor_clkLo_of_lt hj]
  · cases hp : s.phase <;> simp [State.successor, hj, hp]

theorem State.successor_xwait_eq_flip_of_ne (s : State) (h : s.successor .xwait ≠ .xwait) :
    s.successor .xwait = .flip := by
  by_cases hw : s.config.expTicks ≤ s.config.tsub s.tickNow s.expStart
  · exact s.successor_xwait_eq_flip_iff.2 hw
  · simp [State.successor, hw] at h

/-- `MarkedOnce` of a state in which `i` is selected. -/
theorem State.markedOnce_iff (hs : s.isAt i) :
    s.MarkedOnce ↔ s.Sequenced ∧
      (i ≠ .strbHi → i ≠ .xwait → ¬ (i = .flip ∧ s.phase = .awaitingExposure) → s.ScanTicks) ∧
      (i = .xwait ∨ (i = .flip ∧ s.phase = .awaitingExposure) → s.frameTicks.head? = some s.expStart) := by
  constructor
  · rintro ⟨hq, hscan, htail⟩
    simp only [State.isAt_iff_of_isAt hs] at hscan htail
    exact ⟨hq, hscan, htail⟩
  · rintro ⟨hq, hscan, htail⟩
    refine ⟨hq, ?_, ?_⟩ <;> simpa only [State.isAt_iff_of_isAt hs]

theorem State.MarkedOnce.of_strbHi (hq : s.Sequenced) (hs : s.isAt .strbHi) (h : exec .strbHi s = .next t) :
    t.MarkedOnce := by
  rw [State.markedOnce_iff (i := .clkHi) (exec_isAt_successor h)]
  exact ⟨hq.of_exec hs h, fun _ _ _ => exec_strbHi_scanTicks h hs, by simp⟩

theorem State.MarkedOnce.of_exec (h : s.MarkedOnce) (hs : s.isAt i) (he : exec i s = .next t) : t.MarkedOnce := by
  obtain ⟨hq, hscan, htail⟩ := (State.markedOnce_iff hs).1 h
  have hqs := hq.at hs
  have ht := hq.of_exec hs he
  cases i with
  | strbHi => exact .of_strbHi hq hs he
  | clkHi | strbLo | xmark | samp =>
    have hsc := (hscan (by decide) (by decide) (by simp)).of_exec hs he (by decide) (by decide) (by decide)
    exact (State.markedOnce_iff (exec_isAt_successor he)).2 ⟨ht, fun _ _ _ => hsc, by simp [State.successor]⟩
  | clkLo =>
    have hsc := (hscan (by decide) (by decide) (by simp)).of_exec hs he (by decide) (by decide) (by decide)
    refine (State.markedOnce_iff (exec_isAt_successor he)).2 ⟨ht, fun _ _ _ => hsc, fun htl => ?_⟩
    rw [s.successor_eq_flip_iff, exec_phase_of_ne_flip he (by decide)] at htl
    rcases htl with hx | ⟨⟨hx, -⟩ | ⟨-, -, hc⟩, hp⟩
    · exact absurd hx s.successor_clkLo_ne_xwait
    · exact absurd hx (by decide)
    · exact absurd (hc.symm.trans hp) (by decide)
  | rend =>
    have hsc := (hscan (by decide) (by decide) (by simp)).of_exec hs he (by decide) (by decide) (by decide)
    have hm : s.Marked := hqs.marked_of_tail (by decide) (hqs.wait_phase (by decide))
    have hmt := (exec_marked_iff he hs (by decide)).2 (.inl hm)
    refine (State.markedOnce_iff (exec_isAt_successor he)).2 ⟨ht, by simp [State.successor], fun _ => ?_⟩
    rw [hsc.1 hmt]
    rfl
  | xwait =>
    have hhead : t.frameTicks.head? = some t.expStart := by
      rw [exec_frameTicks he (by decide), List.head?_append, htail (.inl rfl), (exec_frame he).expStart (by simp)]
      rfl
    have hp : t.phase = .awaitingExposure := (exec_phase_of_ne_flip he (by decide)).trans (hqs.wait_phase (by decide))
    refine (State.markedOnce_iff (exec_isAt_successor he)).2 ⟨ht, fun _ hnw hnf => ?_, fun _ => hhead⟩
    exact absurd ⟨s.successor_xwait_eq_flip_of_ne hnw, hp⟩ hnf
  | flip =>
    refine (State.markedOnce_iff (exec_isAt_successor he)).2 ⟨ht, by simp [State.successor], by simp [State.successor]⟩

theorem State.MarkedOnce.rstTaken (h : s.MarkedOnce) : s.rstTaken.MarkedOnce :=
  ⟨h.sequenced.rstTaken, h.scan, h.tail⟩

theorem State.resetWith_markedOnce (c : ValidConfig) (e : Environment) : (State.resetWith c e).MarkedOnce :=
  (State.markedOnce_iff (i := .strbHi) rfl).2 ⟨State.resetWith_sequenced c e, by simp, by simp⟩

/-- Settles O30: a due `XMARK` is the only read of a scan, its value is kept, and the reads of the wait come after
it. -/
theorem stepKeepsMarkedOnce : Obligations.StepKeepsMarkedOnce := by
  unfold Obligations.StepKeepsMarkedOnce
  exact step_keeps State.resetWith_markedOnce (fun _ => State.MarkedOnce.rstTaken) fun _ _ _ =>
    State.MarkedOnce.of_exec

end Sys2Proof.Machine
end

section
/-! PROOFS. R34, R53 and R135: the converter reads and buffer writes of a frame; R28 and R152: the alternation of
frames and the count of renders. -/

namespace Sys2Proof.Machine

variable {s t : State} {i : Instr}

/-! ### The sampling events of a frame (R135) -/

theorem exec_frameSampling (h : exec i s = .next t) (hi : i ≠ .strbHi) :
    t.frameSampling = s.frameSampling ++ (s.events i).filter Event.isSampling := by
  rw [State.frameSampling, exec_currentFrame h hi, List.filter_append, State.frameSampling]

theorem exec_strbHi_frameSampling (h : exec .strbHi s = .next t) : t.frameSampling = [] := by
  rw [State.frameSampling, exec_strbHi_currentFrame h]
  rfl

/-- Only a due `SAMP` reads the converter and writes the buffer. -/
theorem State.filter_isSampling_events (s : State) (i : Instr) :
    (s.events i).filter Event.isSampling =
      if i = .samp ∧ s.sampleDue = true then [.adcRead s.j s.adcAnswer, .fbWrite s.wrIdx s.sample] else [] := by
  have h := s.emits i
  generalize s.events i = evs at h ⊢
  cases h <;> simp [*, Event.isSampling]

/-- Where no sample is taken the frame's sampling events, the write index and the buffer stay. -/
theorem exec_noSample (h : exec i s = .next t) (hi : i ≠ .strbHi) (hd : ¬ (i = .samp ∧ s.sampleDue = true)) :
    t.frameSampling = s.frameSampling ∧ t.wrIdx = s.wrIdx ∧ t.fb = s.fb := by
  have hnot : i = .samp → s.sampleDue = false := fun hx => by simpa [hx] using hd
  refine ⟨?_, (exec_frame h).wrIdx hi hnot, (exec_frame h).fb hnot⟩
  rw [exec_frameSampling h hi, s.filter_isSampling_events, if_neg hd, List.append_nil]

/-- A sample at the write index extends the entries read so far by the reading (R34, R131). -/
theorem Memory.take_write_succ (m : Memory) {k v : Nat} (hk : k < m.length) :
    (m.write k v).take (k + 1) = m.take k ++ [v] := by
  rw [Memory.write, List.take_succ_eq_append_getElem (by simpa using hk), List.getElem_set_self,
    List.take_set_of_le (Nat.le_refl k)]

/-- The pixel of a due sample in a Capturing frame is that of the entry it fills (R132). -/
theorem State.SequencedAt.j_of_sampleDue (hq : s.SequencedAt .samp) (hd : s.sampleDue = true) :
    s.j = s.config.winN + s.wrIdx * s.config.winM := by
  obtain ⟨hp, hw⟩ := s.sampleDue_iff.1 hd
  rw [hq.sequenced.wrIdx_of_isAt_samp hq.selected hp]
  exact Config.eq_of_inWindow s.config.winM_pos hw

theorem State.SequencedAt.fb_length (hq : s.SequencedAt i) : s.fb.length = s.config.lineWidth :=
  ((Memory.wf_iff _ _).1 hq.mem_wf).1

/-- In a sequenced state a due sample has room in the buffer (R11 clause V3, R40). -/
theorem State.SequencedAt.wrIdx_lt_of_sampleDue (hq : s.SequencedAt .samp) (hd : s.sampleDue = true) :
    s.wrIdx < s.config.lineWidth := by
  obtain ⟨hp, hw⟩ := s.sampleDue_iff.1 hd
  rw [hq.sequenced.wrIdx_of_isAt_samp hq.selected hp]
  have hj : s.j < s.config.pixels := Nat.lt_of_le_of_lt hq.j_range (Nat.sub_one_lt_of_lt s.config.pixels_pos)
  exact (s.config.sampledBelow_lt_sampleCount hj hw).trans_le s.config.sampleCount_le

/-- A due `SAMP` of a sequenced state stores the coming answer and records both events. -/
theorem exec_samp_due (h : exec .samp s = .next t) (hd : s.sampleDue = true) :
    t = (s.adcRead.collect s.sample).goTo .clkLo := by
  rcases exec_samp_next h with ⟨-, -, -, ht⟩ | ⟨hn, -⟩
  · exact ht
  · exact absurd (s.sampleDue_iff.1 hd) hn

theorem exec_samp_due_frameSampling (h : exec .samp s = .next t) (hq : s.SequencedAt .samp) (hd : s.sampleDue = true)
    {vs : List Nat} (hlen : vs.length = s.wrIdx) (hs : s.frameSampling = samplingOf s.config.toConfig vs) :
    t.frameSampling = samplingOf s.config.toConfig (vs ++ [s.adcAnswer]) := by
  rw [exec_frameSampling h (by decide), s.filter_isSampling_events, if_pos ⟨rfl, hd⟩, hs, samplingOf_append, hlen,
    hq.j_of_sampleDue hd]
  rfl

theorem State.SamplesTraced.of_strbHi (hq : s.Sequenced) (hs : s.isAt .strbHi) (h : exec .strbHi s = .next t) :
    t.SamplesTraced where
  sequenced := hq.of_exec hs h
  idle _ := exec_strbHi_frameSampling h
  collected _ := by
    refine ⟨[], ?_, exec_strbHi_frameSampling h, ?_⟩ <;> rw [exec_strbHi_next h] <;> rfl

theorem State.SamplesTraced.of_exec (h : s.SamplesTraced) (hs : s.isAt i) (he : exec i s = .next t) :
    t.SamplesTraced := by
  by_cases hi : i = .strbHi
  · subst hi
    exact .of_strbHi h.sequenced hs he
  have hq := h.sequenced.at hs
  have hcap := exec_inCapture he hs hi (hq.frame_begun (.inl hi))
  refine ⟨h.sequenced.of_exec hs he, ?_, ?_⟩
  all_goals
    intro hc
    rw [hcap] at hc
  · have hd : ¬ (i = .samp ∧ s.sampleDue = true) := by
      rintro ⟨-, hd⟩
      rw [State.inCapture_of_ne hs hi, (s.sampleDue_iff.1 hd).1] at hc
      exact absurd hc (by decide)
    rw [(exec_noSample he hi hd).1]
    exact h.idle hc
  · obtain ⟨vs, hlen, hsamp, hfb⟩ := h.collected hc
    rw [(exec_frame he).config]
    by_cases hd : i = .samp ∧ s.sampleDue = true
    · obtain ⟨rfl, hd⟩ := hd
      refine ⟨vs ++ [s.adcAnswer], ?_, exec_samp_due_frameSampling he hq hd hlen hsamp, ?_⟩
      · rw [exec_samp_due he hd]
        simp [hlen]
      · have hroom : s.wrIdx < s.fb.length := hq.fb_length ▸ hq.wrIdx_lt_of_sampleDue hd
        rw [exec_samp_due he hd]
        simp [Memory.take_write_succ _ hroom, hfb, State.sample]
    · obtain ⟨hsamp', hwr, hfb'⟩ := exec_noSample he hi hd
      rw [hsamp', hwr, hfb']
      exact ⟨vs, hlen, hsamp, hfb⟩

theorem State.SamplesTraced.rstTaken (h : s.SamplesTraced) : s.rstTaken.SamplesTraced :=
  ⟨h.sequenced.rstTaken, h.idle, h.collected⟩

theorem State.resetWith_inCapture (c : ValidConfig) (e : Environment) : (State.resetWith c e).inCapture = false := rfl

theorem State.resetWith_samplesTraced (c : ValidConfig) (e : Environment) : (State.resetWith c e).SamplesTraced where
  sequenced := State.resetWith_sequenced c e
  idle _ := rfl
  collected hc := absurd hc (by simp [State.resetWith_inCapture])

/-- Settles O28: a due `SAMP` appends its reading to those of the frame, in the trace and in the buffer, and no other
operation touches them but `STRB_HI`, which begins with none. -/
theorem stepKeepsSamplesTraced : Obligations.StepKeepsSamplesTraced := by
  unfold Obligations.StepKeepsSamplesTraced
  exact step_keeps State.resetWith_samplesTraced (fun _ => State.SamplesTraced.rstTaken) fun _ _ _ =>
    State.SamplesTraced.of_exec

/-- Settles O35: at `FLIP` all `PIXELS` indices are done, so `WRIDX` is `SAMPLE_COUNT`. -/
theorem finishedCaptureHoldsTheReadings : Obligations.FinishedCaptureHoldsTheReadings := by
  unfold Obligations.FinishedCaptureHoldsTheReadings
  intro s h hs hp
  have hq := h.sequenced.at hs
  have hc : s.inCapture = true := by rw [State.inCapture_of_ne hs (by decide), hp]; rfl
  obtain ⟨vs, hlen, hsamp, hfb⟩ := h.collected hc
  have hwr : s.wrIdx = s.config.sampleCount := by
    rw [hq.wrIdx, if_pos hc, pixelsDoneAt, hq.tail_pixel (by decide), Nat.sub_add_cancel s.config.pixels_pos,
      Config.sampleCount]
  refine ⟨vs, hlen.trans hwr, hsamp, fun k v hk => ?_⟩
  have hlt : k < s.wrIdx := hlen ▸ (List.getElem?_eq_some_iff.1 hk).1
  rw [Memory.read, ← List.getElem?_take_of_lt hlt, hfb, List.getElem?_map, hk]
  rfl

/-! ### Frames begun and renders sent (R28, R152) -/

theorem exec_framesBegun (h : exec i s = .next t) :
    t.framesBegun = s.framesBegun + if i = .strbHi then 1 else 0 := by
  rw [State.framesBegun, exec_trace h, List.count_append, State.framesBegun]
  by_cases hi : i = .strbHi
  · subst hi
    rfl
  · rw [List.count_eq_zero.2 (s.strobeRise_notMem_events hi), if_neg hi]

theorem exec_rendersSent (h : exec i s = .next t) :
    t.rendersSent = s.rendersSent + if i = .rend then 1 else 0 := by
  rw [State.rendersSent, exec_trace h, List.countP_append, State.rendersSent]
  congr 1
  have h := s.emits i
  generalize s.events i = evs at h ⊢
  cases h <;> simp [*, Event.isRender]

/-- `Alternating` of a state in which `i` is selected. -/
structure State.AlternatingAt (s : State) (i : Instr) : Prop where
  phase_parity : s.phase = .capturing ↔ if i = .strbHi then s.framesBegun % 2 = 1 else s.framesBegun % 2 = 0
  begun : i ≠ .strbHi → 1 ≤ s.framesBegun
  renders : s.rendersSent =
    if i = .strbHi ∨ i = .xwait ∨ i = .flip then (s.framesBegun + 1) / 2 else s.framesBegun / 2

theorem State.alternating_iff (hs : s.isAt i) : s.Alternating ↔ s.Sequenced ∧ s.AlternatingAt i := by
  constructor
  · rintro ⟨hq, hphase, hbegun, hrenders⟩
    simp only [State.isAt_iff_of_isAt hs] at hphase hbegun hrenders
    exact ⟨hq, hphase, hbegun, hrenders⟩
  · rintro ⟨hq, hphase, hbegun, hrenders⟩
    refine ⟨hq, ?_, ?_, ?_⟩ <;> simpa only [State.isAt_iff_of_isAt hs]

/-- The places of a frame where its render has been sent, or where it sends none: they follow these. -/
theorem State.successor_rendered_iff (s : State) (i : Instr) :
    s.successor i = .strbHi ∨ s.successor i = .xwait ∨ s.successor i = .flip ↔
      i = .rend ∨ i = .xwait ∨ i = .flip ∨ (i = .clkLo ∧ ¬ s.j < s.config.pixels - 1 ∧ s.phase = .capturing) := by
  rw [s.successor_eq_strbHi_iff, s.successor_eq_flip_iff]
  cases i with
  | clkLo => simp [s.successor_clkLo_ne_xwait]
  | xwait =>
    by_cases hw : s.config.expTicks ≤ s.config.tsub s.tickNow s.expStart <;> simp [State.successor, hw]
  | strbHi | clkHi | strbLo | xmark | samp | rend | flip => simp [State.successor]

theorem Phase.flip_eq_capturing_iff (p : Phase) : p.flip = .capturing ↔ ¬ p = .capturing := by
  cases p <;> simp [Phase.flip]

theorem State.AlternatingAt.of_exec (h : s.AlternatingAt i) (hq : s.SequencedAt i) (he : exec i s = .next t) :
    t.AlternatingAt (s.successor i) := by
  obtain ⟨hphase, hbegun, hrenders⟩ := h
  have hf := exec_framesBegun he
  have hr := exec_rendersSent he
  refine ⟨?_, fun _ => ?_, ?_⟩
  · simp only [s.successor_eq_strbHi_iff]
    by_cases hi : i = .flip
    · subst hi
      rw [exec_flip_next he] at hf ⊢
      simp only [reduceCtorEq, if_false, add_zero] at hphase hf
      rw [State.goTo_phase, Phase.flip_eq_capturing_iff, hphase, if_pos rfl, hf, Nat.mod_two_not_eq_zero]
    · rw [exec_phase_of_ne_flip he hi, if_neg hi, hphase, hf]
      by_cases hs : i = .strbHi
      · simp only [hs, if_true]
        omega
      · simp [hs]
  · by_cases hs : i = .strbHi
    · simp [hf, hs]
    · exact (hbegun hs).trans (hf ▸ Nat.le_add_right ..)
  · simp only [s.successor_rendered_iff]
    rw [hr, hf, hrenders]
    cases i with
    | strbHi | clkHi | strbLo | xmark | samp | xwait | flip => simp
    | clkLo =>
      have hhalf : s.phase = .capturing → s.framesBegun / 2 = (s.framesBegun + 1) / 2 := fun hc => by
        have heven : s.framesBegun % 2 = 0 := hphase.1 hc
        omega
      simpa using fun _ => hhalf
    | rend =>
      have hodd : ¬ s.framesBegun % 2 = 0 := fun heven =>
        absurd ((hq.wait_phase (.inl rfl)).symm.trans (hphase.2 heven)) (by decide)
      have hhalf : s.framesBegun / 2 + 1 = (s.framesBegun + 1) / 2 := by omega
      simpa using hhalf

theorem State.Alternating.of_exec (h : s.Alternating) (hs : s.isAt i) (he : exec i s = .next t) : t.Alternating := by
  obtain ⟨hq, ha⟩ := (State.alternating_iff hs).1 h
  exact (State.alternating_iff (exec_isAt_successor he)).2 ⟨hq.of_exec hs he, ha.of_exec (hq.at hs) he⟩

theorem State.Alternating.rstTaken (h : s.Alternating) : s.rstTaken.Alternating :=
  ⟨h.sequenced.rstTaken, h.phase_parity, h.begun, h.renders⟩

theorem State.resetWith_alternating (c : ValidConfig) (e : Environment) : (State.resetWith c e).Alternating :=
  (State.alternating_iff (i := .strbHi) rfl).2
    ⟨State.resetWith_sequenced c e, by constructor <;> simp [State.framesBegun, State.rendersSent]⟩

/-- Settles O29: `STRB_HI` alone counts a frame, `FLIP` alone toggles the phase and `REND` alone sends a render. -/
theorem stepKeepsAlternating : Obligations.StepKeepsAlternating := by
  unfold Obligations.StepKeepsAlternating
  exact step_keeps State.resetWith_alternating (fun _ => State.Alternating.rstTaken) fun _ _ _ =>
    State.Alternating.of_exec

end Sys2Proof.Machine
end

section
/-! PROOFS. The codes (R71, R72, R77), and each operation by itself: what it answers from every state and where it
stands in the sequence (R91 to R115, R131, R151). -/

namespace Sys2Proof.Machine

variable {s t : State} {i : Instr}

/-! ### Codes (R71, R72, R77) -/

/-- Settles O1: the two tables by evaluation, and the reserved codes by the decoder's last row. -/
theorem stepCodesAreThePatterns : Obligations.StepCodesAreThePatterns := by
  unfold Obligations.StepCodesAreThePatterns
  exact ⟨by decide, ⟨rfl, rfl, rfl, rfl, rfl, rfl, rfl, rfl, rfl⟩, fun _ => decode_reserved⟩

theorem decodeTableWord_encode (nbits : Nat) (i : Instr) : decodeTableWord nbits (encode i).toNat = some i := by
  have hlt : (encode i).toNat < 16 := Nat.lt_of_le_of_lt (encode_toNat_le i) (by decide)
  rw [decodeTableWord, decodeWord, if_pos hlt, BitVec.ofNat_toNat, BitVec.setWidth_eq, decode_encode_ok]
  rfl

theorem decodeTableWord_eq_none (nbits : Nat) {w : Nat} (hw : 9 ≤ w) : decodeTableWord nbits w = none := by
  unfold decodeTableWord decodeWord
  split
  · next hlt =>
    have hval : (BitVec.ofNat 4 w).toNat = w := by rw [BitVec.toNat_ofNat, Nat.mod_eq_of_lt hlt]
    rw [decode_reserved (by rwa [hval])]
    rfl
  · rfl

/-- Settles O2: the decoder and the encoder are inverse on the nine codes, and every number from 9 up is a reserved
code or wider than the field. -/
theorem decodeAndEncodeAgree : Obligations.DecodeAndEncodeAgree := by
  unfold Obligations.DecodeAndEncodeAgree
  exact ⟨fun i _ => decode_encode_ok i, fun _ _ h => (encode_of_decode h).symm, decodeTableWord_encode,
    fun nbits _ => decodeTableWord_eq_none nbits⟩

/-! ### One step (R16, R77, R168, R195) -/

theorem step_of_rstAsserted (h : s.rstAsserted = true) : step s = .next s.rstTaken.applyReset := if_pos h

theorem step_of_released (h : s.rstAsserted = false) : step s = stepReleased s.rstTaken := by
  rw [step, h]
  rfl

theorem step_of_isAt (h : s.rstAsserted = false) (hs : s.isAt i) : step s = exec i s.rstTaken := by
  have hs' : s.rstTaken.isAt i := hs
  rw [step_of_released h, stepReleased, State.fetch_of_isAt hs']

/-- A reserved code is no operation, so the step is the model's fault (R77). -/
theorem step_of_reserved (h : s.rstAsserted = false) (hcode : 9 ≤ s.stepCode.toNat) :
    step s = .fault (.reservedStep s.stepCode) := by
  rw [step_of_released h, stepReleased, State.fetch, State.rstTaken_stepCode, decode_reserved hcode]

/-- Settles O3: a code that decodes is the code of its operation, and with nothing pending no level is taken. -/
theorem stepRunsTheDecodedOperation : Obligations.StepRunsTheDecodedOperation := by
  unfold Obligations.StepRunsTheDecodedOperation
  refine fun s i h => ⟨fun hr => step_of_isAt hr (encode_of_decode h), fun hnil => ?_⟩
  have hr : s.rstAsserted = false := by simp [State.rstAsserted, hnil]
  rw [step_of_isAt hr (encode_of_decode h), s.rstTaken_of_nil hnil]

/-- Settles O4: reserved codes do not decode, and what an operation leaves in `STEP` is its successor's code. -/
theorem reservedStepCodeFaults : Obligations.ReservedStepCodeFaults := by
  unfold Obligations.ReservedStepCodeFaults
  refine ⟨fun s => step_of_reserved, rfl, fun i s t h => ?_⟩
  have ht : t.stepCode = encode (s.successor i) := exec_isAt_successor h
  rw [ht]
  exact encode_toNat_le _

/-- Settles O5: the step is `resetWith` over the constants and the environment as they were. -/
theorem resetWinsFromEveryState : Obligations.ResetWinsFromEveryState := by
  unfold Obligations.ResetWinsFromEveryState
  intro s h
  exact ⟨_, step_of_rstAsserted h, rfl, rfl, rfl, rfl, rfl, rfl, rfl,
    State.resetWith_expStart_lt _ _ s.config.tickMod_pos, State.resetWith_fb_wf _ _, rfl, rfl, rfl, rfl, rfl,
    fun hr => step_of_isAt hr rfl⟩

/-- Settles O6: power-on is a reset over the hardware's configuration. -/
theorem powerOnIsTheResetState : Obligations.PowerOnIsTheResetState := by
  unfold Obligations.PowerOnIsTheResetState
  exact ⟨rfl, rfl, rfl, rfl, rfl, rfl, rfl, State.resetWith_expStart_lt _ _ ValidConfig.hw.tickMod_pos,
    State.resetWith_fb_wf _ _, _, _, rfl⟩

/-- Settles O23: the reset lemma of each invariant. -/
theorem resetMeetsEveryInvariant : Obligations.ResetMeetsEveryInvariant := by
  unfold Obligations.ResetMeetsEveryInvariant
  rintro s ⟨c, e, rfl⟩
  exact ⟨State.resetWith_sequenced c e, State.resetWith_exposureTimed c e, State.resetWith_pinsTraced c e,
    State.resetWith_samplesTraced c e, State.resetWith_alternating c e, State.resetWith_markedOnce c e⟩

/-- Settles O31: a reset leaves free values of the entries' width, and only `SAMP` writes, at that width. -/
theorem stepKeepsMemoryForm : Obligations.StepKeepsMemoryForm := by
  unfold Obligations.StepKeepsMemoryForm
  exact step_keeps (P := fun s => Memory.wf s.config.toConfig s.fb = true) State.resetWith_fb_wf (fun _ h => h)
    fun _ _ _ h _ he => exec_mem_wf he h

/-- Settles O56: neither a reset nor an operation writes the configuration. -/
theorem constantsNeverChange : Obligations.ConstantsNeverChange := by
  unfold Obligations.ConstantsNeverChange
  exact fun s t => step_config

/-! ### The pin operations and `REND` (R91, R92, R151) -/

theorem exec_strbHi (s : State) :
    exec .strbHi s = .next (State.goTo { s.setStrobe true with j := 0, wrIdx := 0 } .clkHi) := rfl

theorem exec_clkHi (s : State) : exec .clkHi s = .next ((s.setClock true).goTo .strbLo) := rfl

theorem exec_rend (s : State) : exec .rend s = .next (s.emitRender.goTo .xwait) := rfl

/-- Settles O9: the one branch of `STRB_HI`, and the pin levels of a sequenced state there. -/
theorem strbHiBeginsAFrame : Obligations.StrbHiBeginsAFrame := by
  unfold Obligations.StrbHiBeginsAFrame
  exact ⟨rfl, exec_strbHi, fun s hq hs => ⟨(hq.at hs).strobe, (hq.at hs).clock⟩⟩

/-- Settles O10: the one branch of `CLK_HI`, and the pin levels of a sequenced state there. -/
theorem clkHiRaisesClock : Obligations.ClkHiRaisesClock := by
  unfold Obligations.ClkHiRaisesClock
  refine ⟨rfl, exec_clkHi, fun s hq hs => ⟨(hq.at hs).clock, ?_⟩⟩
  rw [(hq.at hs).strobe]
  exact beq_iff_eq

/-- Settles O18: the one branch of `REND`, and where a sequenced state stands there. -/
theorem rendHandsOverTheBuffer : Obligations.RendHandsOverTheBuffer := by
  unfold Obligations.RendHandsOverTheBuffer
  refine ⟨rfl, exec_rend, fun s hq hs => ?_⟩
  have h := hq.at hs
  exact ⟨h.wait_phase (.inl rfl), h.tail_pixel (.inl rfl), h.strobe, h.clock, h.fb_length⟩

/-! ### The tick reads (R111, R113, R175) -/

theorem exec_xmark_of_due (hp : s.phase = .awaitingExposure) (hj : s.j = s.config.cue) :
    exec .xmark s = .next (s.mark.goTo .samp) := by
  rw [exec, execXmark, if_pos (s.markDue_iff.2 ⟨hp, hj⟩)]

theorem exec_xmark_of_not_due (h : ¬ (s.phase = .awaitingExposure ∧ s.j = s.config.cue)) :
    exec .xmark s = .next (s.goTo .samp) := by
  rw [exec, execXmark, if_neg (mt s.markDue_iff.1 h)]

theorem exec_xwait (s : State) :
    exec .xwait s = .next (s.tickRead.goTo
      (if s.config.expTicks ≤ s.config.tsub s.tickNow s.expStart then .flip else .xwait)) := by
  rw [exec, execXwait]
  simp only [s.waitOver_iff]

/-- A pending answer of the counter: how far it has advanced. -/
theorem State.tickRead_of_pending {d : Nat} {ds : List Nat} (h : s.env.tickAdvances = d :: ds) :
    s.tickRead = { s with
      trace := s.trace ++ [.tickRead ((s.env.time + d) % s.config.tickMod)],
      env := { s.env with time := s.env.time + d, tickAdvances := ds } } := by
  simp [State.tickRead, State.log, State.tickNow, State.tickTime, State.tickAdvance, h]

/-- With nothing pending the counter has advanced by a free amount. -/
theorem State.tickRead_of_nil (h : s.env.tickAdvances = []) :
    s.tickRead = { s with
      trace := s.trace ++ [.tickRead ((s.env.time + s.tickAdvance) % s.config.tickMod)],
      env := { s.env with time := s.env.time + s.tickAdvance, tickDraws := s.env.tickDraws + 1 } } := by
  simp [State.tickRead, State.log, State.tickNow, State.tickTime, h]

theorem State.tickTime_of_pending {d : Nat} {ds : List Nat} (h : s.env.tickAdvances = d :: ds) :
    s.tickTime = s.env.time + d := by
  simp [State.tickTime, State.tickAdvance, h]

/-- Settles O13: the two branches of `XMARK`, the due one with a pending answer and with a free one. -/
theorem xmarkRecordsTheExposureStart : Obligations.XmarkRecordsTheExposureStart := by
  unfold Obligations.XmarkRecordsTheExposureStart
  refine ⟨rfl, fun s d ds hp hj h => ?_, fun s hp hj h => ⟨s.tickAdvance, ?_⟩, fun s => exec_xmark_of_not_due⟩
  · rw [exec_xmark_of_due hp hj, State.mark, State.tickRead_of_pending h, State.tickNow, State.tickTime_of_pending h]
    rfl
  · rw [exec_xmark_of_due hp hj, State.mark, State.tickRead_of_nil h]
    rfl

/-- The code that `XWAIT` leaves in `STEP`. -/
theorem encode_ite (p : Prop) [Decidable p] (a b : Instr) :
    encode (if p then a else b) = if p then encode a else encode b := apply_ite ..

/-- Settles O14: the one branch of `XWAIT`, with a pending answer and with a free one. -/
theorem xwaitComparesAFreshTick : Obligations.XwaitComparesAFreshTick := by
  unfold Obligations.XwaitComparesAFreshTick
  refine ⟨rfl, fun s d ds h => ?_, fun s h => ⟨s.tickAdvance, ?_⟩⟩
  · rw [exec_xwait, State.goTo, encode_ite, State.tickRead_of_pending h, State.tickNow, State.tickTime_of_pending h]
    rfl
  · rw [exec_xwait, State.goTo, encode_ite, State.tickRead_of_nil h]
    rfl

/-! ### `SAMP` (R131) -/

theorem Config.inWindow_of_bounds {c : Config} {j : Nat} (hlo : c.winN ≤ j) (hhi : j + c.winN ≤ c.pixels)
    (hmod : (j - c.winN) % c.winM = 0) : c.inWindow j = true :=
  (c.inWindow_iff j).2 ⟨hlo, hhi, hmod⟩

theorem exec_samp_of_not_due (h : ¬ (s.phase = .capturing ∧ s.config.inWindow s.j = true)) :
    exec .samp s = .next (s.goTo .clkLo) := by
  rw [exec, execSamp, if_neg (mt s.sampleDue_iff.1 h)]

theorem exec_samp_of_full (hp : s.phase = .capturing) (hw : s.config.inWindow s.j = true)
    (hfull : s.config.lineWidth ≤ s.wrIdx) : exec .samp s = .fault .frameBufferOverflow := by
  rw [exec, execSamp, if_pos (s.sampleDue_iff.2 ⟨hp, hw⟩), if_pos (s.bufferFull_iff.2 hfull)]

/-- A sample with a pending answer of the converter. -/
theorem State.adcRead_collect_of_pending {v : Nat} {vs : List Nat} (h : s.env.adcAnswers = v :: vs) :
    s.adcRead.collect s.sample = { s with
      fb := s.fb.set s.wrIdx (v % 2 ^ s.config.sampleW), wrIdx := s.wrIdx + 1,
      trace := s.trace ++ [.adcRead s.j v, .fbWrite s.wrIdx (v % 2 ^ s.config.sampleW)],
      env := { s.env with adcAnswers := vs } } := by
  simp [State.adcRead, State.collect, State.log, State.sample, State.adcAnswer, Memory.write, h]

/-- A sample with a free answer of the converter. -/
theorem State.adcRead_collect_of_nil (h : s.env.adcAnswers = []) :
    s.adcRead.collect s.sample = { s with
      fb := s.fb.set s.wrIdx (s.adcAnswer % 2 ^ s.config.sampleW), wrIdx := s.wrIdx + 1,
      trace := s.trace ++ [.adcRead s.j s.adcAnswer, .fbWrite s.wrIdx (s.adcAnswer % 2 ^ s.config.sampleW)],
      env := { s.env with adcDraws := s.env.adcDraws + 1 } } := by
  simp [State.adcRead, State.collect, State.log, State.sample, Memory.write, h]

/-- Settles O16: the branches of `SAMP` that answer a next state, the due one with a pending answer and with a free
one. -/
theorem sampCollectsADueSample : Obligations.SampCollectsADueSample := by
  unfold Obligations.SampCollectsADueSample
  refine ⟨rfl, fun s v vs hp hlo hhi hmod hroom h => ?_, fun s hp hlo hhi hmod hroom h => ⟨s.adcAnswer, ?_⟩,
    fun s hn => ?_⟩
  · rw [exec_samp_of_due hp (Config.inWindow_of_bounds hlo hhi hmod) hroom, State.adcRead_collect_of_pending h]
    rfl
  · rw [exec_samp_of_due hp (Config.inWindow_of_bounds hlo hhi hmod) hroom, State.adcRead_collect_of_nil h]
    rfl
  · exact exec_samp_of_not_due (by rwa [Config.inWindow_iff])

/-- Settles O17: the branch of `SAMP` that faults, and the reset that wins over it. -/
theorem sampOverflowFaults : Obligations.SampOverflowFaults := by
  unfold Obligations.SampOverflowFaults
  intro s hp hlo hhi hmod hfull
  have hw := Config.inWindow_of_bounds hlo hhi hmod
  refine ⟨exec_samp_of_full hp hw hfull, fun hs hr => ?_, _, step_of_rstAsserted rfl, rfl⟩
  rw [step_of_isAt hr hs]
  exact exec_samp_of_full (s := s.rstTaken) hp hw hfull

/-! ### What the operations leave unchanged (R74) -/

theorem exec_trace_prefix (h : exec i s = .next t) : s.trace <+: t.trace := exec_trace h ▸ List.prefix_append ..

/-- Where `SAMP` stores nothing no sample is due. -/
theorem State.storeIndex_eq_none_iff (s : State) : s.storeIndex = none ↔ s.sampleDue = false := by
  simp [State.storeIndex]

theorem State.eq_wrIdx_of_storeIndex {a : Nat} (h : s.storeIndex = some a) : s.sampleDue = true ∧ a = s.wrIdx := by
  unfold State.storeIndex at h
  split at h
  · next hd => exact ⟨hd, (Option.some.inj h).symm⟩
  · exact absurd h (by simp)

/-- Settles O19: none of the four is among the operations that write the field. -/
theorem pinOperationsFrame : Obligations.PinOperationsFrame := by
  unfold Obligations.PinOperationsFrame
  intro i s t hi h
  obtain ⟨hm, hs, hw, hf⟩ : i ≠ .xmark ∧ i ≠ .samp ∧ i ≠ .xwait ∧ i ≠ .flip := by
    rcases hi with rfl | rfl | rfl | rfl <;> decide
  have hmark : i = .xmark → s.markDue = false := fun hx => absurd hx hm
  have hsample : i = .samp → s.sampleDue = false := fun hx => absurd hx hs
  have fr := exec_frame h
  refine ⟨exec_phase_of_ne_flip h hf, fr.expStart hmark, fr.env hmark hw hsample, fr.config,
    fun k => by rw [fr.fb hsample], exec_trace_prefix h, ?_, ?_, ?_, fun hne => fr.wrIdx hne hsample⟩
  · rintro (rfl | rfl) <;> exact fr.strobe (by decide) (by decide)
  · rintro (rfl | rfl) <;> exact fr.clock (by decide) (by decide)
  · rintro (rfl | rfl) <;> exact fr.j (by decide) (by decide)

/-- Settles O20: none of the three is among the operations that write the field. -/
theorem timerOperationsFrame : Obligations.TimerOperationsFrame := by
  unfold Obligations.TimerOperationsFrame
  intro i s t hi h
  obtain ⟨hsh, hch, hsl, hs, hcl⟩ : i ≠ .strbHi ∧ i ≠ .clkHi ∧ i ≠ .strbLo ∧ i ≠ .samp ∧ i ≠ .clkLo := by
    rcases hi with rfl | rfl | rfl <;> decide
  have hsample : i = .samp → s.sampleDue = false := fun hx => absurd hx hs
  have fr := exec_frame h
  refine ⟨fr.j hsh hcl, fr.strobe hsh hsl, fr.clock hch hcl, fr.wrIdx hsh hsample, fr.config,
    fun k => by rw [fr.fb hsample], exec_trace_prefix h, exec_phase_of_ne_flip h,
    fun hm => ⟨fr.expStart fun hx => absurd hx hm, fr.markTime fun hx => absurd hx hm⟩, ?_, exec_rst h,
    fr.adcAnswers hsample, fr.adcDraws hsample, fr.resetDraws⟩
  rintro rfl
  exact ⟨fr.env (by simp) (by decide) hsample, by rw [exec_trace h, State.events, List.append_nil]⟩

/-- Settles O21: a due `SAMP` writes the entry at `WRIDX`, which is its store index, and any other writes nothing. -/
theorem sampFrame : Obligations.SampFrame := by
  unfold Obligations.SampFrame
  intro s t h
  have fr := exec_frame h
  refine ⟨fun a ha k hk => ?_, fun hn => ?_, fr.j (by decide) (by decide), exec_phase_of_ne_flip h (by decide),
    fr.strobe (by decide) (by decide), fr.clock (by decide) (by decide), fr.expStart (by simp), fr.config,
    exec_trace_prefix h, exec_rst h, fr.time (by simp) (by decide), fr.tickAdvances (by simp) (by decide),
    fr.tickDraws (by simp) (by decide), fr.resetDraws, fr.markTime (by simp)⟩
  · obtain ⟨hd, rfl⟩ := State.eq_wrIdx_of_storeIndex ha
    rw [exec_samp_due h hd]
    exact Memory.read_write_other s.fb _ hk
  · have hd : s.sampleDue = false := s.storeIndex_eq_none_iff.1 hn
    refine ⟨fun k => by rw [fr.fb fun _ => hd], fr.wrIdx (by decide) fun _ => hd,
      fr.env (by simp) (by decide) fun _ => hd, ?_⟩
    rw [exec_trace h]
    simp [State.events, hd]

/-- Settles O22: `REND` appends an event and writes no field. -/
theorem rendFrame : Obligations.RendFrame := by
  unfold Obligations.RendFrame
  intro s t h
  have hpre := exec_trace_prefix h
  rw [exec_rend_next h] at hpre ⊢
  exact ⟨rfl, rfl, rfl, rfl, rfl, rfl, fun _ => rfl, rfl, rfl, hpre⟩

/-! ### Control transfer (R75, R173) -/

/-- Settles O53: R75's table read off each operation, with what each does to `J` and the phase. -/
theorem successorTableIsTheControlTransfer : Obligations.SuccessorTableIsTheControlTransfer := by
  unfold Obligations.SuccessorTableIsTheControlTransfer
  intro i s t h
  refine ⟨exec_isAt_successor h, ?_, ?_, ?_, (exec_frame h).j, ?_⟩
  · rintro rfl
    rw [exec_strbHi_next h]
    rfl
  · rintro rfl hj
    rw [exec_clkLo_of_pulsesLeft hj] at h
    cases h
    rfl
  · rintro rfl hj
    rw [exec_clkLo_of_lastPulse hj] at h
    cases h
    rfl
  · refine ⟨fun hne => Classical.not_not.1 fun hi => hne (exec_phase_of_ne_flip h hi), ?_⟩
    rintro rfl
    rw [exec_flip_next h]
    exact Phase.flip_ne s.phase

/-- No operation but `XWAIT` is its own successor (R173). -/
theorem State.successor_ne_self (s : State) (hi : i ≠ .xwait) : s.successor i ≠ i := by
  cases i with
  | xwait => exact absurd rfl hi
  | clkLo =>
    by_cases hj : s.j < s.config.pixels - 1
    · simp [s.successor_clkLo_of_lt hj]
    · cases hp : s.phase with
      | awaitingExposure => simp [s.successor_clkLo_of_awaiting hj hp]
      | capturing => simp [s.successor_clkLo_of_capturing hj hp]
  | strbHi | clkHi | strbLo | xmark | samp | rend | flip => simp [State.successor]

/-- Settles O54: in R75's table only `XWAIT` may lead to itself, and otherwise it leads to `FLIP`. -/
theorem onlyXwaitCanStay : Obligations.OnlyXwaitCanStay := by
  unfold Obligations.OnlyXwaitCanStay
  intro i s t h
  refine ⟨fun hi ht => s.successor_ne_self hi ((exec_isAt_iff h i).1 ht), ?_⟩
  rintro rfl
  rw [exec_isAt_iff h, exec_isAt_iff h]
  exact or_iff_not_imp_left.2 s.successor_xwait_eq_flip_of_ne

/-! ### The renderer (R153 to R155) -/

theorem glyphOf_of_lt {threshold v : Nat} (h : threshold < v) : glyphOf threshold v = .high := if_pos h

theorem glyphOf_of_le {threshold v : Nat} (h : v ≤ threshold) : glyphOf threshold v = .low :=
  if_neg (Nat.not_lt_of_le h)

/-- Settles O46: the two branches of `Glyph`, mapped over the line. -/
theorem glyphIsHighAboveThreshold : Obligations.GlyphIsHighAboveThreshold := by
  unfold Obligations.GlyphIsHighAboveThreshold
  exact ⟨fun _ _ => ⟨glyphOf_of_lt, glyphOf_of_le⟩, fun _ _ _ => List.getElem?_map, rfl⟩

theorem GlyphSet.char_glyphOf (g : GlyphSet) (threshold v : Nat) :
    g.char (glyphOf threshold v) = if threshold < v then g.high else g.low := by
  by_cases h : threshold < v
  · rw [glyphOf_of_lt h, if_pos h]
    rfl
  · rw [glyphOf_of_le (Nat.le_of_not_lt h), if_neg h]
    rfl

/-- Settles O47: the line is cleared and every entry's glyph is written as its character. -/
theorem displayLineClearsAndWrites : Obligations.DisplayLineClearsAndWrites := by
  unfold Obligations.DisplayLineClearsAndWrites
  refine ⟨fun g threshold buf => ⟨?_, fun he => ?_⟩, by decide⟩
  · simp only [displayLine, renderLine, List.map_map, Function.comp_def, g.char_glyphOf]
  · exact absurd g.distinct (by simp [he])

end Sys2Proof.Machine
end

section
/-! PROOFS. The machine from outside: that it never stops (R166), what a step's events say of the ports and the display
(R38, R133, R150, R168), the widths of the registers (R50, R73), and what the engine does not look at (R32, R134). -/

namespace Sys2Proof.Machine

variable {s t : State} {i : Instr}

/-! ### The machine never stops (R166, R173) -/

theorem State.SequencedAt.exec_next (hq : s.SequencedAt i) : ∃ t, exec i s = .next t := by
  cases i with
  | samp =>
    by_cases hd : s.phase = .capturing ∧ s.config.inWindow s.j = true
    · exact ⟨_, exec_samp_of_due hd.1 hd.2 (hq.wrIdx_lt_of_sampleDue (s.sampleDue_iff.2 hd))⟩
    · exact ⟨_, exec_samp_of_not_due hd⟩
  | strbHi | clkHi | strbLo | xmark | clkLo | rend | xwait | flip => exact ⟨_, rfl⟩

theorem State.Sequenced.step_next (hq : s.Sequenced) : ∃ t, step s = .next t := by
  cases hr : s.rstAsserted with
  | true => exact ⟨_, step_of_rstAsserted hr⟩
  | false =>
    obtain ⟨i, hs⟩ := State.exists_isAt hq
    rw [step_of_isAt hr hs]
    exact (hq.rstTaken.at hs).exec_next

theorem State.Sequenced.run_next (hq : s.Sequenced) (n : Nat) : ∃ t, run n s = .next t := by
  induction n generalizing s with
  | zero => exact ⟨s, rfl⟩
  | succ n ih =>
    obtain ⟨u, hu⟩ := hq.step_next
    rw [run_succ_of_step hu]
    exact ih (hq.of_step hu)

/-- Settles O25: a due sample has room by R40, so no operation of a sequenced state faults, and every step keeps
R40. -/
theorem sequencedMachineNeverStops : Obligations.SequencedMachineNeverStops := by
  unfold Obligations.SequencedMachineNeverStops
  refine fun s hq => ⟨hq.step_next, fun n r hf => ?_⟩
  obtain ⟨t, ht⟩ := hq.run_next n
  exact absurd (ht.symm.trans hf) (by simp)

/-! ### The events of one step -/

/-- A step that is no reset appends the events of the operation that `STEP` selects. -/
theorem step_events (hr : s.rstAsserted = false) (h : step s = .next t) :
    ∃ i, s.isAt i ∧ exec i s.rstTaken = .next t ∧ t.trace = s.trace ++ s.events i := by
  rcases step_cases h with ⟨hr', -⟩ | ⟨-, i, hs, he⟩
  · exact absurd (hr.symm.trans hr') (by decide)
  · exact ⟨i, hs, he, by simpa using exec_trace he⟩

theorem State.adcRead_mem_events (s : State) (i : Instr) (j v : Nat) :
    .adcRead j v ∈ s.events i ↔ (i = .samp ∧ s.sampleDue = true) ∧ j = s.j ∧ v = s.adcAnswer := by
  have h := s.emits i
  generalize s.events i = evs at h ⊢
  cases h <;> simp [*]

theorem State.tickRead_mem_events (s : State) (i : Instr) (v : Nat) :
    .tickRead v ∈ s.events i ↔ ((i = .xmark ∧ s.markDue = true) ∨ i = .xwait) ∧ v = s.tickNow := by
  have h := s.emits i
  generalize s.events i = evs at h ⊢
  cases h <;> simp [*]

theorem State.render_mem_events (s : State) (i : Instr) (buf : List Nat) :
    .render buf ∈ s.events i ↔ i = .rend ∧ buf = s.fb := by
  have h := s.emits i
  generalize s.events i = evs at h ⊢
  cases h <;> simp [*]

/-- An operation appends at most two events, and reads the environment at most once (R168). -/
theorem State.events_length_le (s : State) (i : Instr) :
    (s.events i).length ≤ 2 ∧ (s.events i).countP Event.isEnvRead ≤ 1 := by
  have h := s.emits i
  generalize s.events i = evs at h ⊢
  cases h <;> simp [*, List.countP_cons, Event.isEnvRead]

theorem State.events_flatMap_displayOf (s : State) (i : Instr) (g : GlyphSet) (threshold : Nat) :
    (s.events i).flatMap (displayOf g threshold) = if i = .rend then displayLine g threshold s.fb else [] := by
  have h := s.emits i
  generalize s.events i = evs at h ⊢
  cases h <;> simp [*, displayOf]

/-- Settles O48: only the event of `REND` makes the renderer send something. -/
theorem onlyRendReachesTheDisplay : Obligations.OnlyRendReachesTheDisplay := by
  unfold Obligations.OnlyRendReachesTheDisplay
  intro s t g hr h
  obtain ⟨i, hs, -, htr⟩ := step_events hr h
  rw [State.display, htr, step_config h, List.flatMap_append, s.events_flatMap_displayOf, State.display]
  simp only [State.isAt_iff_of_isAt hs]

/-- Where the step does not fault, the trigger is asserted exactly where a sample is due. -/
theorem State.adcTrigger_iff (hs : s.isAt i) (he : exec i s.rstTaken = .next t) :
    s.adcTrigger = true ↔ i = .samp ∧ s.sampleDue = true := by
  have hs' : s.stepCode = encode i := hs
  simp only [State.adcTrigger, hs', Bool.and_eq_true, beq_iff_eq, encode_inj, Bool.not_eq_true', and_iff_left_iff_imp]
  rintro ⟨rfl, hd⟩
  rcases exec_samp_next he with ⟨-, -, hroom, -⟩ | ⟨hn, -⟩
  · exact Bool.eq_false_iff.2 fun hf => Nat.not_le_of_lt hroom (s.bufferFull_iff.1 hf)
  · exact absurd (s.sampleDue_iff.1 hd) hn

/-- Settles O49: the read of the converter is an event of a due `SAMP` and of no other operation. -/
theorem adcTriggerMeansOneRead : Obligations.AdcTriggerMeansOneRead := by
  unfold Obligations.AdcTriggerMeansOneRead
  intro s t hr h
  obtain ⟨i, hs, he, htr⟩ := step_events hr h
  rw [State.adcTrigger_iff hs he, ← Bool.not_eq_true, State.adcTrigger_iff hs he, htr]
  simp only [List.append_cancel_left_eq, List.drop_left]
  refine ⟨⟨?_, ?_⟩, fun hn j v hm => hn ((s.adcRead_mem_events i j v).1 hm).1⟩
  · rintro ⟨rfl, hd⟩
    exact ⟨s.adcAnswer, if_pos hd⟩
  · rintro ⟨v, hev⟩
    exact ((s.adcRead_mem_events i s.j v).1 (hev ▸ List.mem_cons_self)).1

theorem State.tickSampled_iff (hs : s.isAt i) :
    s.tickSampled = true ↔ (i = .xmark ∧ s.markDue = true) ∨ i = .xwait := by
  have hs' : s.stepCode = encode i := hs
  simp [State.tickSampled, hs']

/-- Settles O50: the read of the counter is the event of a due `XMARK` and of `XWAIT`, and of no other operation. -/
theorem tickSampledMeansOneRead : Obligations.TickSampledMeansOneRead := by
  unfold Obligations.TickSampledMeansOneRead
  intro s t hr h
  obtain ⟨i, hs, -, htr⟩ := step_events hr h
  rw [← Bool.not_eq_true, State.tickSampled_iff hs, htr]
  simp only [List.append_cancel_left_eq, List.drop_left]
  refine ⟨⟨?_, ?_⟩, fun hn v hm => hn ((s.tickRead_mem_events i v).1 hm).1⟩
  · rintro (⟨rfl, hd⟩ | rfl)
    · exact ⟨s.tickNow, if_pos hd⟩
    · exact ⟨s.tickNow, rfl⟩
  · rintro ⟨v, hev⟩
    exact ((s.tickRead_mem_events i v).1 (hev ▸ List.mem_cons_self)).1

/-- Settles O55: the events of an operation, and the empty trace of a reset. -/
theorem oneEnvironmentReadPerStep : Obligations.OneEnvironmentReadPerStep := by
  unfold Obligations.OneEnvironmentReadPerStep
  intro s t h
  refine ⟨fun hr => ?_, fun hr => ?_⟩
  · obtain ⟨i, -, -, htr⟩ := step_events hr h
    exact ⟨s.events i, htr, s.events_length_le i⟩
  · rw [step_of_rstAsserted hr] at h
    cases h
    rfl

/-! ### Widths (R10, R50, R73) -/

theorem packEntries_lt (w : Nat) (vs : List Nat) : packEntries w vs < 2 ^ (vs.length * w) := by
  induction vs with
  | nil => exact Nat.two_pow_pos _
  | cons v vs ih =>
    rw [packEntries, List.length_cons, Nat.succ_mul, Nat.add_comm (vs.length * w), Nat.pow_add]
    calc v % 2 ^ w + 2 ^ w * packEntries w vs
        < 2 ^ w + 2 ^ w * packEntries w vs := Nat.add_lt_add_right (Nat.mod_lt _ (Nat.two_pow_pos w)) _
      _ = 2 ^ w * (packEntries w vs + 1) := by rw [Nat.mul_succ, Nat.add_comm]
      _ ≤ 2 ^ w * 2 ^ (vs.length * w) := Nat.mul_le_mul_left _ ih

/-- Entry `k` stands at bit `k * w` of the packed entries. -/
theorem packEntries_shiftRight (w : Nat) {vs : List Nat} {k v : Nat} (h : vs[k]? = some v) :
    packEntries w vs >>> (k * w) % 2 ^ w = v % 2 ^ w := by
  induction vs generalizing k with
  | nil => simp at h
  | cons x xs ih =>
    cases k with
    | zero =>
      obtain rfl : x = v := by simpa using h
      simp [packEntries]
    | succ k =>
      have hrest : packEntries w (x :: xs) >>> w = packEntries w xs := by
        rw [packEntries, Nat.shiftRight_eq_div_pow, Nat.add_mul_div_left _ _ (Nat.two_pow_pos w),
          Nat.div_eq_of_lt (Nat.mod_lt _ (Nat.two_pow_pos w)), Nat.zero_add]
      rw [Nat.succ_mul, Nat.add_comm, Nat.shiftRight_add, hrest]
      exact ih (by simpa using h)

theorem le_two_pow_ceilLog2 (n : Nat) : n ≤ 2 ^ ceilLog2 n := by
  unfold ceilLog2
  split
  · next h => simpa using h
  · next h =>
    have hlt := Nat.lt_log2_self (n := n - 1)
    omega

theorem toNat_ofNat_ceilLog2 {x n : Nat} (h : x < n) : (BitVec.ofNat (ceilLog2 n) x).toNat = x := by
  rw [BitVec.toNat_ofNat, Nat.mod_eq_of_lt (h.trans_le (le_two_pow_ceilLog2 n))]

theorem Memory.lt_of_read {c : Config} {m : Memory} (hm : Memory.wf c m = true) {k v : Nat}
    (h : m.read k = some v) : v < 2 ^ c.sampleW :=
  ((Memory.wf_iff c m).1 hm).2 v (List.mem_of_getElem? h)

/-- Settles O51: the packed entries fit the port, each stands at its own bits, and the copy is the event of `REND`. -/
theorem renderDataHoldsEntriesInOrder : Obligations.RenderDataHoldsEntriesInOrder := by
  unfold Obligations.RenderDataHoldsEntriesInOrder
  refine ⟨fun s hm k v hk => ?_, fun s t hr h => ?_⟩
  · have hfit : packEntries s.config.sampleW s.fb < 2 ^ (s.config.lineWidth * s.config.sampleW) :=
      ((Memory.wf_iff _ _).1 hm).1 ▸ packEntries_lt s.config.sampleW s.fb
    rw [BitVec.extractLsb'_toNat, State.renderData, BitVec.toNat_ofNat, Nat.mod_eq_of_lt hfit,
      packEntries_shiftRight _ hk, Nat.mod_eq_of_lt (Memory.lt_of_read hm hk)]
  · obtain ⟨i, hs, -, htr⟩ := step_events hr h
    have hvalid : s.renderValid = true ↔ i = .rend := by
      have hs' : s.stepCode = encode i := hs
      simp [State.renderValid, hs']
    rw [hvalid, htr, List.append_cancel_left_eq]
    refine ⟨?_, fun hev => ((s.render_mem_events i s.fb).1 (hev ▸ List.mem_cons_self)).1⟩
    rintro rfl
    rfl

/-- Settles O52: each register lies below the number whose logarithm, rounded up, is its width. -/
theorem registersFitTheirWidths : Obligations.RegistersFitTheirWidths := by
  unfold Obligations.RegistersFitTheirWidths
  refine ⟨fun s hq => ⟨?_, ?_, toNat_ofNat_ceilLog2 hq.expStart_range, fun k v hk => ?_⟩, ?_, ?_⟩
  · have hj : s.j < s.config.pixels := Nat.lt_of_le_of_lt hq.j_range (Nat.sub_one_lt_of_lt s.config.pixels_pos)
    have hw : s.config.pixels ≤ 2 ^ s.config.jWidth :=
      (le_two_pow_ceilLog2 _).trans (Nat.pow_le_pow_right Nat.two_pos (Nat.le_max_right ..))
    rw [State.jBits, BitVec.toNat_ofNat, Nat.mod_eq_of_lt (hj.trans_le hw)]
  · exact toNat_ofNat_ceilLog2 (Nat.lt_succ_of_le (hq.wrIdx_range.trans s.config.sampleCount_le))
  · refine ⟨BitVec.ofNat _ v, by rw [State.fbBits, hk]; rfl, ?_⟩
    rw [BitVec.toNat_ofNat, Nat.mod_eq_of_lt (Memory.lt_of_read hq.mem_wf hk)]
  · decide
  · decide

/-! ### What the engine does not look at (R32, R134, R150) -/

theorem next_ne_fault {r : Fault} : (.next s : Host.Outcome State Fault Refusal) ≠ .fault r := by simp

/-- The one operation that faults, and where (R131). -/
theorem exec_fault {r : Fault} (h : exec i s = .fault r) :
    i = .samp ∧ s.phase = .capturing ∧ s.config.inWindow s.j = true ∧ s.config.lineWidth ≤ s.wrIdx ∧
      r = .frameBufferOverflow := by
  cases i with
  | samp =>
    by_cases hd : s.phase = .capturing ∧ s.config.inWindow s.j = true
    · by_cases hroom : s.wrIdx < s.config.lineWidth
      · rw [exec_samp_of_due hd.1 hd.2 hroom] at h
        exact absurd h (by simp)
      · have hfull := Nat.le_of_not_lt hroom
        rw [exec_samp_of_full hd.1 hd.2 hfull] at h
        cases h
        exact ⟨rfl, hd.1, hd.2, hfull, rfl⟩
    · rw [exec_samp_of_not_due hd] at h
      exact absurd h (by simp)
  | strbHi | clkHi | strbLo | xmark | clkLo | rend | xwait | flip => exact absurd h next_ne_fault

/-- A step that faults is no reset: its code is reserved, or the operation it selects faults. -/
theorem step_fault {r : Fault} (h : step s = .fault r) :
    s.rstAsserted = false ∧
      ((9 ≤ s.stepCode.toNat ∧ r = .reservedStep s.stepCode) ∨ ∃ i, s.isAt i ∧ exec i s.rstTaken = .fault r) := by
  cases hr : s.rstAsserted with
  | true =>
    rw [step_of_rstAsserted hr] at h
    exact absurd h (by simp)
  | false =>
    refine ⟨rfl, ?_⟩
    by_cases hcode : 9 ≤ s.stepCode.toNat
    · rw [step_of_reserved hr hcode] at h
      cases h
      exact .inl ⟨hcode, rfl⟩
    · obtain ⟨i, hs⟩ := exists_encode_of_le (Nat.le_of_lt_succ (Nat.lt_of_not_le hcode))
      rw [step_of_isAt hr hs] at h
      exact .inr ⟨i, hs, h⟩

/-- Two machines run in lockstep under `R`: they select the same operations and are reset together, every operation
keeps `R`, and an operation that faults in the first faults in the second. -/
structure Lockstep (R : State → State → Prop) : Prop where
  stepCode : ∀ {s t}, R s t → s.stepCode = t.stepCode
  rst : ∀ {s t}, R s t → s.env.rst = t.env.rst
  taken : ∀ {s t}, R s t → R s.rstTaken t.rstTaken
  reset : ∀ {s t}, R s t → R s.applyReset t.applyReset
  next : ∀ {i s t s'}, R s t → exec i s = .next s' → ∃ t', exec i t = .next t' ∧ R s' t'
  fault : ∀ {s t}, R s t → s.phase = t.phase ∧ s.j = t.j ∧ s.wrIdx = t.wrIdx ∧
    (∀ j, s.config.inWindow j = t.config.inWindow j) ∧ s.config.lineWidth = t.config.lineWidth

theorem Lockstep.rstAsserted {R : State → State → Prop} (hR : Lockstep R) (h : R s t) :
    s.rstAsserted = t.rstAsserted := by
  rw [State.rstAsserted, hR.rst h, State.rstAsserted]

theorem Lockstep.exec_fault {R : State → State → Prop} (hR : Lockstep R) (h : R s t) {r : Fault}
    (he : exec i s = .fault r) : exec i t = .fault r := by
  obtain ⟨rfl, hp, hw, hfull, rfl⟩ := Machine.exec_fault he
  obtain ⟨hphase, hj, hwr, hwin, hlw⟩ := hR.fault h
  exact exec_samp_of_full (hphase ▸ hp) (by rw [← hwin, ← hj, hw]) (by rwa [← hwr, ← hlw])

theorem Lockstep.step {R : State → State → Prop} (hR : Lockstep R) (h : R s t) :
    (∀ s', step s = .next s' → ∃ t', step t = .next t' ∧ R s' t') ∧ ∀ r, step s = .fault r → step t = .fault r := by
  refine ⟨fun s' hs' => ?_, fun r hf => ?_⟩
  · rcases step_cases hs' with ⟨hr, rfl⟩ | ⟨hr, i, hs, he⟩
    · exact ⟨_, step_of_rstAsserted ((hR.rstAsserted h).symm.trans hr), hR.reset (hR.taken h)⟩
    · rw [step_of_isAt ((hR.rstAsserted h).symm.trans hr) ((hR.stepCode h).symm.trans hs)]
      exact hR.next (hR.taken h) he
  · obtain ⟨hr, ⟨hcode, rfl⟩ | ⟨i, hs, he⟩⟩ := step_fault hf
    · rw [hR.stepCode h] at hcode ⊢
      exact step_of_reserved ((hR.rstAsserted h).symm.trans hr) hcode
    · rw [step_of_isAt ((hR.rstAsserted h).symm.trans hr) ((hR.stepCode h).symm.trans hs)]
      exact hR.exec_fault (hR.taken h) he

/-- No operation reads the threshold. -/
theorem exec_withThreshold (x : Nat) (h : exec i s = .next t) :
    exec i (s.withThreshold x) = .next (t.withThreshold x) := by
  cases i with
  | strbHi => rw [exec_strbHi_next h]; rfl
  | clkHi => rw [exec_clkHi_next h]; rfl
  | strbLo =>
    rcases exec_strbLo_next h with ⟨hj, rfl⟩ | ⟨hj, rfl⟩
    · exact exec_strbLo_of_j_eq_zero (s := s.withThreshold x) hj
    · exact exec_strbLo_of_j_ne_zero (s := s.withThreshold x) hj
  | xmark =>
    rcases exec_xmark_next h with ⟨hp, hj, rfl⟩ | ⟨hn, rfl⟩
    · exact exec_xmark_of_due (s := s.withThreshold x) hp hj
    · exact exec_xmark_of_not_due (s := s.withThreshold x) hn
  | samp =>
    rcases exec_samp_next h with ⟨hp, hw, hroom, rfl⟩ | ⟨hn, rfl⟩
    · exact exec_samp_of_due (s := s.withThreshold x) hp hw hroom
    · exact exec_samp_of_not_due (s := s.withThreshold x) hn
  | clkLo =>
    rcases exec_clkLo_next h with ⟨hj, rfl⟩ | ⟨hj, hp, rfl⟩ | ⟨hj, hp, rfl⟩
    · exact exec_clkLo_of_pulsesLeft (s := s.withThreshold x) hj
    all_goals
      refine (exec_clkLo_of_lastPulse (s := s.withThreshold x) hj).trans ?_
      have hp' : (s.withThreshold x).phase = s.phase := rfl
      rw [hp', hp]
      rfl
  | rend => rw [exec_rend_next h]; rfl
  | xwait =>
    rw [exec_xwait] at h ⊢
    cases h
    rfl
  | flip => rw [exec_flip_next h]; rfl

theorem lockstep_withThreshold (x : Nat) : Lockstep fun s t => t = s.withThreshold x where
  stepCode := by rintro s _ rfl; rfl
  rst := by rintro s _ rfl; rfl
  taken := by rintro s _ rfl; rfl
  reset := by rintro s _ rfl; rfl
  next := by rintro i s _ s' rfl he; exact ⟨_, exec_withThreshold x he, rfl⟩
  fault := by rintro s _ rfl; exact ⟨rfl, rfl, rfl, fun _ => rfl, rfl⟩

/-- Settles O57: the machine and the one with another threshold run in lockstep. -/
theorem thresholdIsInvisibleToTheEngine : Obligations.ThresholdIsInvisibleToTheEngine := by
  unfold Obligations.ThresholdIsInvisibleToTheEngine
  intro s x
  obtain ⟨hnext, hfault⟩ := (lockstep_withThreshold x).step (s := s) rfl
  refine ⟨fun t ht => ?_, hfault⟩
  obtain ⟨t', ht', rfl⟩ := hnext t ht
  exact ht'

/-- States that agree but in readings read the counter at the same time. -/
theorem State.AgreeButReadings.tickTime (h : s.AgreeButReadings t) : s.tickTime = t.tickTime := by
  simp only [State.tickTime, State.tickAdvance, h.time, h.tickAdvances, h.tickDraws]

theorem State.AgreeButReadings.tickNow (h : s.AgreeButReadings t) : s.tickNow = t.tickNow := by
  rw [State.tickNow, h.tickTime, h.config, State.tickNow]

theorem State.AgreeButReadings.goTo (h : s.AgreeButReadings t) (i : Instr) :
    (s.goTo i).AgreeButReadings (t.goTo i) := { h with stepCode := rfl }

theorem State.AgreeButReadings.setStrobe (h : s.AgreeButReadings t) (l : Level) :
    (s.setStrobe l).AgreeButReadings (t.setStrobe l) := { h with strobe := rfl }

theorem State.AgreeButReadings.setClock (h : s.AgreeButReadings t) (l : Level) :
    (s.setClock l).AgreeButReadings (t.setClock l) := { h with clock := rfl }

theorem State.AgreeButReadings.tickRead (h : s.AgreeButReadings t) : s.tickRead.AgreeButReadings t.tickRead :=
  { h with
    time := h.tickTime
    tickAdvances := congrArg List.tail h.tickAdvances
    tickDraws := by simp only [State.tickRead_env_tickDraws, h.tickAdvances, h.tickDraws] }

theorem State.AgreeButReadings.mark (h : s.AgreeButReadings t) : s.mark.AgreeButReadings t.mark :=
  { h.tickRead with expStart := h.tickNow, markTime := h.tickTime }

theorem State.AgreeButReadings.sample (h : s.AgreeButReadings t) (v w : Nat) :
    (s.adcRead.collect v).AgreeButReadings (t.adcRead.collect w) :=
  { h with wrIdx := congrArg (· + 1) h.wrIdx }

/-- An operation does the same in states that agree but in readings, and they agree after it. -/
theorem State.AgreeButReadings.exec {s' : State} (h : s.AgreeButReadings t) (he : exec i s = .next s') :
    ∃ t', Machine.exec i t = .next t' ∧ s'.AgreeButReadings t' := by
  have hpix : s.config.pixels = t.config.pixels := by rw [h.config]
  cases i with
  | strbHi => exact ⟨_, rfl, exec_strbHi_next he ▸ { h with stepCode := rfl, j := rfl, strobe := rfl, wrIdx := rfl }⟩
  | clkHi => exact ⟨_, rfl, exec_clkHi_next he ▸ (h.setClock true).goTo _⟩
  | strbLo =>
    rcases exec_strbLo_next he with ⟨hj, rfl⟩ | ⟨hj, rfl⟩
    · exact ⟨_, exec_strbLo_of_j_eq_zero (h.j ▸ hj), (h.setStrobe false).goTo _⟩
    · exact ⟨_, exec_strbLo_of_j_ne_zero (h.j ▸ hj), h.goTo _⟩
  | xmark =>
    rcases exec_xmark_next he with ⟨hp, hj, rfl⟩ | ⟨hn, rfl⟩
    · exact ⟨_, exec_xmark_of_due (h.phase ▸ hp) (by rw [← h.j, hj, h.config]), h.mark.goTo _⟩
    · exact ⟨_, exec_xmark_of_not_due (by rwa [← h.phase, ← h.j, ← h.config]), h.goTo _⟩
  | samp =>
    rcases exec_samp_next he with ⟨hp, hw, hroom, rfl⟩ | ⟨hn, rfl⟩
    · rw [h.config, h.j] at hw
      rw [h.config, h.wrIdx] at hroom
      exact ⟨_, exec_samp_of_due (h.phase ▸ hp) hw hroom, (h.sample _ _).goTo _⟩
    · exact ⟨_, exec_samp_of_not_due (by rwa [← h.phase, ← h.j, ← h.config]), h.goTo _⟩
  | clkLo =>
    by_cases hj : s.j < s.config.pixels - 1
    · have hj' : t.j < t.config.pixels - 1 := by rwa [← h.j, ← hpix]
      rw [exec_clkLo_of_pulsesLeft hj] at he
      cases he
      exact ⟨_, exec_clkLo_of_pulsesLeft hj',
        { h with clock := rfl, stepCode := rfl, j := congrArg (· + 1) h.j }⟩
    · have hj' : ¬ t.j < t.config.pixels - 1 := by rwa [← h.j, ← hpix]
      rw [exec_clkLo_of_lastPulse hj, h.phase] at he
      cases he
      exact ⟨_, exec_clkLo_of_lastPulse hj', (h.setClock false).goTo _⟩
  | rend => exact ⟨_, rfl, exec_rend_next he ▸ { h with stepCode := rfl }⟩
  | xwait =>
    rw [exec_xwait, h.config, h.tickNow, h.expStart] at he
    cases he
    exact ⟨_, exec_xwait t, h.tickRead.goTo _⟩
  | flip => exact ⟨_, rfl, exec_flip_next he ▸ { h with stepCode := rfl, phase := congrArg Phase.flip h.phase }⟩

theorem lockstep_agreeButReadings : Lockstep State.AgreeButReadings where
  stepCode h := h.stepCode
  rst h := h.rst
  taken h := { h with rst := congrArg List.tail h.rst }
  reset {s t} h :=
    { h with
      stepCode := rfl, j := rfl, phase := rfl, strobe := rfl, clock := rfl, wrIdx := rfl
      resetDraws := congrArg (· + 1) h.resetDraws
      expStart := by
        show Config.freeExpStart s.env.resetDraws % s.config.tickMod = _
        rw [h.resetDraws, h.config]
        rfl }
  next h he := h.exec he
  fault h := ⟨h.phase, h.j, h.wrIdx, fun _ => by rw [h.config], by rw [h.config]⟩

/-- Settles O58: two states that agree but in readings run in lockstep. -/
theorem readingsDoNotSteerTheEngine : Obligations.ReadingsDoNotSteerTheEngine := by
  unfold Obligations.ReadingsDoNotSteerTheEngine
  exact fun s t h => lockstep_agreeButReadings.step h

end Sys2Proof.Machine
end

section
/-! PROOFS. Runs (R76, R79): which operations a run executes, what a property kept by those operations says of the state
at its end, and the whole scan that a frame without a reset executes. -/

namespace Sys2Proof.Machine

variable {s t u : State} {i : Instr} {is ks : List Instr} {n : Nat}

/-! ### The operations of a run -/

/-- From `s` the steps execute exactly the operations `is`, none of them replaced by a reset, and end in `t`. -/
inductive Executes : List Instr → State → State → Prop
  | nil (s : State) : Executes [] s s
  | cons {i : Instr} {is : List Instr} {s u t : State} (hs : s.isAt i) (hr : s.rstAsserted = false)
      (he : exec i s.rstTaken = .next u) (ht : Executes is u t) : Executes (i :: is) s t

theorem Executes.run (h : Executes is s t) : run is.length s = .next t := by
  induction h with
  | nil s => rfl
  | cons hs hr he _ ih => rw [List.length_cons, run_succ_of_step ((step_of_isAt hr hs).trans he), ih]

theorem Executes.opsRun (h : Executes is s t) : opsRun is.length s = is := by
  induction h with
  | nil s => rfl
  | cons hs hr he _ ih =>
    rw [Machine.opsRun] at ih ⊢
    simp [listing, (step_of_isAt hr hs).trans he, hr, State.fetch_of_isAt hs, listingLine, ih]

theorem Executes.append (h : Executes is s u) (hk : Executes ks u t) : Executes (is ++ ks) s t := by
  induction h with
  | nil s => exact hk
  | cons hs hr he _ ih => exact .cons hs hr he (ih hk)

/-- What every one of the operations keeps holds at the end of the run. -/
theorem Executes.keeps {P : State → Prop} (h : Executes is s t) (hs : P s) (htaken : ∀ s, P s → P s.rstTaken)
    (hexec : ∀ i ∈ is, ∀ s t, P s → s.isAt i → exec i s = .next t → P t) : P t := by
  induction h with
  | nil s => exact hs
  | cons hi _ he _ ih =>
    refine ih (hexec _ List.mem_cons_self _ _ (htaken _ hs) hi he) fun k hk => hexec k (List.mem_cons_of_mem _ hk)

theorem Executes.framesBegun (h : Executes is s t) : t.framesBegun = s.framesBegun + is.count .strbHi := by
  induction h with
  | nil s => rfl
  | cons _ _ he _ ih =>
    rw [ih, exec_framesBegun he, List.count_cons, State.framesBegun, State.rstTaken_trace, State.framesBegun]
    simp only [beq_iff_eq]
    omega

theorem Executes.rendersSent (h : Executes is s t) : t.rendersSent = s.rendersSent + is.count .rend := by
  induction h with
  | nil s => rfl
  | cons _ _ he _ ih =>
    rw [ih, exec_rendersSent he, List.count_cons, State.rendersSent, State.rstTaken_trace, State.rendersSent]
    simp only [beq_iff_eq]
    omega

/-! ### The sequence of a frame (R75, R79) -/

/-- A sequenced state whose coming `n` steps are no resets (R208). -/
structure State.Ready (s : State) (n : Nat) : Prop where
  sequenced : s.Sequenced
  released : s.noResetDuring n = true

@[simp] theorem State.rstTaken_successor (s : State) (i : Instr) : s.rstTaken.successor i = s.successor i := by
  cases i <;> rfl

/-- The next step of a ready state executes the operation `STEP` selects. -/
theorem State.Ready.exec_next (h : s.Ready (n + 1)) (hs : s.isAt i) :
    ∃ t, s.rstAsserted = false ∧ exec i s.rstTaken = .next t ∧ t.Ready n ∧ t.isAt (s.successor i) := by
  have hr := ((noResetDuring_succ s n).1 h.released).1
  obtain ⟨t, he⟩ := (h.sequenced.rstTaken.at hs).exec_next
  exact ⟨t, hr, he, ⟨h.sequenced.rstTaken.of_exec hs he,
    noResetDuring_of_step h.released ((step_of_isAt hr hs).trans he)⟩, s.rstTaken_successor i ▸ exec_isAt_successor he⟩

/-- The two states stand at the same pixel of the same frame. -/
structure State.SamePulse (s t : State) : Prop where
  j : t.j = s.j
  phase : t.phase = s.phase
  config : t.config = s.config

/-- The first four operations of a pulse. -/
def pulseBodyOps : List Instr := [.clkHi, .strbLo, .xmark, .samp]

theorem State.Ready.executes_pulseBody (h : s.Ready (n + 4)) (hs : s.isAt .clkHi) :
    ∃ t, Executes pulseBodyOps s t ∧ t.Ready n ∧ t.isAt .clkLo ∧ s.SamePulse t := by
  obtain ⟨a, hr, ha, hra, hsa⟩ := h.exec_next hs
  obtain ⟨b, hra', hb, hrb, hsb⟩ := hra.exec_next (i := .strbLo) hsa
  obtain ⟨c, hrb', hc, hrc, hsc⟩ := hrb.exec_next (i := .xmark) hsb
  obtain ⟨t, hrc', ht, hrt, hst⟩ := hrc.exec_next (i := .samp) hsc
  have hex : Executes pulseBodyOps s t :=
    .cons hs hr ha (.cons hsa hra' hb (.cons hsb hrb' hc (.cons hsc hrc' ht (.nil t))))
  refine ⟨t, hex, hrt, hst, hex.keeps (P := s.SamePulse) ⟨rfl, rfl, rfl⟩ (fun _ hx => { hx with }) ?_⟩
  intro i hi x y hx _ he
  have hne : ∀ i ∈ pulseBodyOps, i ≠ .strbHi ∧ i ≠ .clkLo ∧ i ≠ .flip := by decide
  obtain ⟨hsh, hcl, hfl⟩ := hne i hi
  exact ⟨((exec_frame he).j hsh hcl).trans hx.j, (exec_phase_of_ne_flip he hfl).trans hx.phase,
    (exec_frame he).config.trans hx.config⟩

/-- A pulse before the last one leads to the next. -/
theorem State.Ready.executes_pulse (h : s.Ready (n + 5)) (hs : s.isAt .clkHi) (hj : s.j < s.config.pixels - 1) :
    ∃ t, Executes pulseOps s t ∧ t.Ready n ∧ t.isAt .clkHi ∧ t.j = s.j + 1 ∧ t.phase = s.phase ∧
      t.config = s.config := by
  obtain ⟨u, hex, hru, hsu, hsame⟩ := State.Ready.executes_pulseBody (n := n + 1) h hs
  obtain ⟨t, hr, he, hrt, hst⟩ := hru.exec_next hsu
  have hju : u.j < u.config.pixels - 1 := by rwa [hsame.j, hsame.config]
  rw [u.successor_clkLo_of_lt hju] at hst
  refine ⟨t, hex.append (.cons hsu hr he (.nil t)), hrt, hst, ?_, ?_, ?_⟩
  · rw [exec_clkLo_of_pulsesLeft (s := u.rstTaken) hju] at he
    cases he
    exact congrArg (· + 1) hsame.j
  · exact (exec_phase_of_ne_flip he (by decide)).trans hsame.phase
  · exact (exec_frame he).config.trans hsame.config

/-- The operation that the last pulse of a scan leads to (R94). -/
def tailOf : Phase → Instr
  | .awaitingExposure => .rend
  | .capturing => .flip

/-- The last pulse leads to the tail of the frame's phase. -/
theorem State.Ready.executes_lastPulse (h : s.Ready (n + 5)) (hs : s.isAt .clkHi) (hj : s.j = s.config.pixels - 1) :
    ∃ t, Executes pulseOps s t ∧ t.Ready n ∧ t.isAt (tailOf s.phase) ∧ s.SamePulse t := by
  obtain ⟨u, hex, hru, hsu, hsame⟩ := State.Ready.executes_pulseBody (n := n + 1) h hs
  obtain ⟨t, hr, he, hrt, hst⟩ := hru.exec_next hsu
  have hju : ¬ u.j < u.config.pixels - 1 := by rw [hsame.j, hsame.config, hj]; exact Nat.lt_irrefl _
  refine ⟨t, hex.append (.cons hsu hr he (.nil t)), hrt, ?_, ?_⟩
  · rw [← hsame.phase]
    cases hp : u.phase with
    | awaitingExposure => rwa [u.successor_clkLo_of_awaiting hju hp] at hst
    | capturing => rwa [u.successor_clkLo_of_capturing hju hp] at hst
  · have hjt : t.j = u.j := by
      rw [exec_clkLo_of_lastPulse (s := u.rstTaken) hju] at he
      cases he
      rfl
    exact ⟨hjt.trans hsame.j, (exec_phase_of_ne_flip he (by decide)).trans hsame.phase,
      (exec_frame he).config.trans hsame.config⟩

/-- The last `m + 1` pulses of a scan. -/
theorem State.Ready.executes_pulses (m : Nat) (h : s.Ready (n + 5 * (m + 1))) (hs : s.isAt .clkHi)
    (hj : s.j + m = s.config.pixels - 1) :
    ∃ t, Executes (List.replicate (m + 1) pulseOps).flatten s t ∧ t.Ready n ∧ t.isAt (tailOf s.phase) ∧
      t.j = s.config.pixels - 1 ∧ t.phase = s.phase ∧ t.config = s.config := by
  induction m generalizing s with
  | zero =>
    obtain ⟨t, hex, hrt, hst, hsame⟩ := h.executes_lastPulse hs hj
    exact ⟨t, by simpa using hex, hrt, hst, hsame.j.trans hj, hsame.phase, hsame.config⟩
  | succ m ih =>
    obtain ⟨u, hex, hru, hsu, hju, hpu, hcu⟩ := State.Ready.executes_pulse (n := n + 5 * (m + 1)) h hs (by omega)
    obtain ⟨t, hex', hrt, hst, hjt, hpt, hct⟩ := ih hru hsu (by rw [hju, hcu]; omega)
    rw [hpu] at hst hpt
    rw [hcu] at hjt hct
    exact ⟨t, hex.append hex', hrt, hst, hjt, hpt, hct⟩

/-- A whole scan: after its `STRB_HI` come its pulses, and it ends at the tail of the frame's phase. -/
theorem State.Ready.executes_scan (h : s.Ready (n + 5 * s.config.pixels + 1)) (hs : s.isAt .strbHi) :
    ∃ u t, s.rstAsserted = false ∧ exec .strbHi s.rstTaken = .next u ∧
      Executes (List.replicate s.config.pixels pulseOps).flatten u t ∧ t.Ready n ∧ t.isAt (tailOf s.phase) ∧
      t.j = s.config.pixels - 1 ∧ t.phase = s.phase ∧ t.config = s.config := by
  obtain ⟨u, hr, he, hru, hsu⟩ := h.exec_next hs
  have hc : u.config = s.config := (exec_frame he).config
  have hp : u.phase = s.phase := exec_phase_of_ne_flip (s := s.rstTaken) (i := .strbHi) he (by decide)
  have hj : u.j = 0 := by rw [exec_strbHi_next he]; rfl
  obtain ⟨m, hm⟩ : ∃ m, s.config.pixels = m + 1 := ⟨s.config.pixels - 1, (Nat.sub_add_cancel s.config.pixels_pos).symm⟩
  have hrun := State.Ready.executes_pulses (s := u) (n := n) m (hm ▸ hru) hsu (by rw [hj, hc, hm]; simp)
  rw [hp, hc] at hrun
  obtain ⟨t, hex, hrt, hst, hjt, hpt, hct⟩ := hrun
  exact ⟨u, t, hr, he, hm ▸ hex, hrt, hst, hjt, hpt, hct⟩

theorem mem_pulseOps_of_mem_pulses {m : Nat} (h : i ∈ (List.replicate m pulseOps).flatten) : i ∈ pulseOps := by
  obtain ⟨l, hl, hi⟩ := List.mem_flatten.1 h
  rwa [(List.mem_replicate.1 hl).2] at hi

theorem pulses_length (m : Nat) : (List.replicate m pulseOps).flatten.length = 5 * m := by
  simp [pulseOps, Nat.mul_comm]

theorem count_pulses_eq_zero (m : Nat) (h : i ∉ pulseOps) : (List.replicate m pulseOps).flatten.count i = 0 :=
  List.count_eq_zero.2 (mt mem_pulseOps_of_mem_pulses h)

end Sys2Proof.Machine
end

section
/-! PROOFS. Whole frames (R76, R110, R135, R152): what a Capturing frame stores and what an AwaitingExposure frame marks
and renders, from every sequenced state at their start. -/

namespace Sys2Proof.Machine

variable {s s₀ t u : State} {i : Instr} {n : Nat}

/-! ### A Capturing frame -/

/-- The entry after the first `k` takes the place of the first of the others. -/
theorem Memory.write_append_drop {xs m : Memory} {k : Nat} (hk : xs.length = k) (hroom : k < m.length) (v : Nat) :
    Memory.write (xs ++ m.drop k) k v = xs ++ [v] ++ m.drop (k + 1) := by
  subst hk
  rw [Memory.write, List.set_append_right _ _ le_rfl, Nat.sub_self, List.drop_eq_getElem_cons hroom, List.set_cons_zero,
    List.append_assoc, List.singleton_append]

/-- The first answers are the pending ones. -/
theorem Environment.map_adcAnswerAt_of_pending {e : Environment} {vs rest : List Nat} (h : e.adcAnswers = vs ++ rest) :
    (List.range vs.length).map e.adcAnswerAt = vs := by
  refine List.ext_getElem (by simp) fun k _ hk => ?_
  simp [Environment.adcAnswerAt, answerAt, h, List.getElem?_append_left hk, List.getElem?_eq_getElem hk]

/-- `s` stands in the Capturing frame that began in `s₀`, or at its end: the converter's answers used so far are the
next ones of `s₀`, one for each entry written, and nothing else that the frame leaves alone has changed. -/
structure State.CapturesFrom (s₀ s : State) : Prop where
  pinsTraced : s.PinsTraced
  inCapture : s.inCapture = true
  config : s.config = s₀.config
  sampling : s.frameSampling = samplingOf s₀.config.toConfig ((List.range s.wrIdx).map s₀.env.adcAnswerAt)
  fb : s.fb = (List.range s.wrIdx).map (fun k => s₀.env.adcAnswerAt k % 2 ^ s₀.config.sampleW) ++ s₀.fb.drop s.wrIdx
  answers : ∀ k, s.env.adcAnswerAt k = s₀.env.adcAnswerAt (s.wrIdx + k)
  pending : s.env.adcAnswers = s₀.env.adcAnswers.drop s.wrIdx
  expStart : s.expStart = s₀.expStart
  time : s.env.time = s₀.env.time
  tickAdvances : s.env.tickAdvances = s₀.env.tickAdvances

theorem State.CapturesFrom.rstTaken (h : State.CapturesFrom s₀ s) : State.CapturesFrom s₀ s.rstTaken :=
  { h with
    pinsTraced := h.pinsTraced.rstTaken
    answers := fun k => (s.rstTaken_adcAnswerAt k).trans (h.answers k) }

/-- The frame's end is told from the state after a reset by its trace. -/
theorem State.CapturesFrom.trace_ne_nil (h : State.CapturesFrom s₀ s) (hs : s.isAt .strbHi) : s.trace ≠ [] := by
  rintro hnil
  have hc := h.inCapture
  rw [State.inCapture_of_isAt_strbHi hs, hnil] at hc
  simp at hc

theorem State.CapturesFrom.of_strbHi (hq : s.Sequenced) (hs : s.isAt .strbHi) (hp : s.phase = .capturing)
    (he : exec .strbHi s = .next t) : State.CapturesFrom s t := by
  have fr := exec_frame he
  have hwr : t.wrIdx = 0 := by rw [exec_strbHi_next he]; rfl
  refine ⟨.of_strbHi hq hs he, ?_, fr.config, ?_, ?_, fun k => ?_, ?_, fr.expStart (by simp),
    fr.time (by simp) (by decide), fr.tickAdvances (by simp) (by decide)⟩
  · rw [exec_strbHi_inCapture he, hp]
    rfl
  · rw [exec_strbHi_frameSampling he, hwr]
    rfl
  · rw [fr.fb (by simp), hwr]
    rfl
  · rw [hwr, Nat.zero_add]
    exact Environment.adcAnswerAt_congr (fr.adcAnswers (by simp)) (fr.adcDraws (by simp)) k
  · rw [fr.adcAnswers (by simp), hwr]
    rfl

/-- A due `SAMP` uses the next answer. -/
theorem State.CapturesFrom.of_samp_due (h : State.CapturesFrom s₀ s) (hs : s.isAt .samp) (hd : s.sampleDue = true)
    (he : exec .samp s = .next t) : State.CapturesFrom s₀ t := by
  have fr := exec_frame he
  have hq := h.pinsTraced.sequenced.at hs
  have hwr : t.wrIdx = s.wrIdx + 1 := by rw [exec_samp_due he hd]; rfl
  have hans : s.adcAnswer = s₀.env.adcAnswerAt s.wrIdx := by
    rw [s.adcAnswer_eq_adcAnswerAt_zero, h.answers, Nat.add_zero]
  have hrange : ∀ f : Nat → Nat, (List.range t.wrIdx).map f = (List.range s.wrIdx).map f ++ [f s.wrIdx] := fun f => by
    rw [hwr, List.range_succ, List.map_append]
    rfl
  refine ⟨h.pinsTraced.of_exec hs he, ?_, fr.config.trans h.config, ?_, ?_, fun k => ?_, ?_,
    (fr.expStart (by simp)).trans h.expStart, (fr.time (by simp) (by decide)).trans h.time,
    (fr.tickAdvances (by simp) (by decide)).trans h.tickAdvances⟩
  · rw [exec_inCapture he hs (by decide) (hq.frame_begun (.inl (by decide))), h.inCapture]
  · rw [hrange, ← hans, ← h.config]
    exact exec_samp_due_frameSampling he hq hd (by simp) (h.config ▸ h.sampling)
  · have hroom : s.wrIdx < s.fb.length := hq.fb_length ▸ hq.wrIdx_lt_of_sampleDue hd
    have hroom₀ : s.wrIdx < s₀.fb.length := by
      have hlen := congrArg List.length h.fb
      rw [List.length_append, List.length_map, List.length_range, List.length_drop] at hlen
      omega
    have hfb : t.fb = s.fb.write s.wrIdx s.sample := by rw [exec_samp_due he hd]; rfl
    rw [hfb, h.fb, Memory.write_append_drop (by simp) hroom₀, hrange, hwr, State.sample, hans, h.config]
  · have hstep : t.env.adcAnswerAt k = s.env.adcAnswerAt (k + 1) := by
      rw [exec_samp_due he hd]
      exact s.adcRead_adcAnswerAt k
    rw [hstep, h.answers, hwr, Nat.add_assoc, Nat.add_comm 1 k]
  · have htail : t.env.adcAnswers = s.env.adcAnswers.tail := by rw [exec_samp_due he hd]; rfl
    rw [htail, h.pending, hwr, List.tail_drop]

/-- Every other operation of the frame uses none. -/
theorem State.CapturesFrom.of_exec (h : State.CapturesFrom s₀ s) (hs : s.isAt i) (hi : i ≠ .strbHi)
    (he : exec i s = .next t) : State.CapturesFrom s₀ t := by
  have hq := h.pinsTraced.sequenced.at hs
  have hp : s.phase = .capturing := by simpa [State.inCapture_of_ne hs hi] using h.inCapture
  by_cases hd : i = .samp ∧ s.sampleDue = true
  · obtain ⟨rfl, hd⟩ := hd
    exact h.of_samp_due hs hd he
  have fr := exec_frame he
  have hsample : i = .samp → s.sampleDue = false := fun hx => by simpa [hx] using hd
  have hmark : i = .xmark → s.markDue = false := fun _ => by simp [State.markDue, hp]
  have hwait : i ≠ .xwait := fun hx => absurd (hp.symm.trans (hq.wait_phase (.inr hx))) (by decide)
  obtain ⟨hsampling, hwr, hfb⟩ := exec_noSample he hi hd
  refine ⟨h.pinsTraced.of_exec hs he, ?_, fr.config.trans h.config, ?_, ?_, fun k => ?_, ?_,
    (fr.expStart hmark).trans h.expStart, (fr.time hmark hwait).trans h.time,
    (fr.tickAdvances hmark hwait).trans h.tickAdvances⟩
  · rw [exec_inCapture he hs hi (hq.frame_begun (.inl hi)), h.inCapture]
  · rw [hsampling, hwr, h.sampling]
  · rw [hfb, hwr, h.fb]
  · rw [hwr, ← h.answers k]
    exact Environment.adcAnswerAt_congr (fr.adcAnswers hsample) (fr.adcDraws hsample) k
  · rw [fr.adcAnswers hsample, hwr, h.pending]

theorem frameCapOps_length (pixels : Nat) : (frameCapOps pixels).length = 5 * pixels + 2 := by
  rw [frameCapOps, scanOps, tailCapOps, List.length_append, List.length_cons, pulses_length, List.length_singleton]

/-- A Capturing frame without a reset executes `FRAME_CAP` and ends before an AwaitingExposure frame. -/
theorem State.Ready.executes_frameCap (h : s.Ready (n + (5 * s.config.pixels + 2))) (hs : s.isAt .strbHi)
    (hp : s.phase = .capturing) :
    ∃ t, Executes (frameCapOps s.config.pixels) s t ∧ t.Ready n ∧ t.isAt .strbHi ∧ t.phase = .awaitingExposure ∧
      t.j = s.config.pixels - 1 ∧ t.wrIdx = s.config.sampleCount ∧ State.CapturesFrom s t := by
  have hq := h.sequenced
  have hready : s.Ready (n + 1 + 5 * s.config.pixels + 1) := by
    rwa [show n + 1 + 5 * s.config.pixels + 1 = n + (5 * s.config.pixels + 2) by omega]
  obtain ⟨a, b, hr, he, hex, hrb, hsb, hjb, hpb, -⟩ := hready.executes_scan hs
  rw [hp] at hsb hpb
  obtain ⟨t, hr', he', hrt, hst⟩ := hrb.exec_next (i := .flip) hsb
  have hb : State.CapturesFrom s b := by
    have ha : State.CapturesFrom s a :=
      { State.CapturesFrom.of_strbHi hq.rstTaken hs hp he with }
    refine hex.keeps ha (fun _ => State.CapturesFrom.rstTaken) fun i hi x y hx hsx => hx.of_exec hsx ?_
    have hne : ∀ i ∈ pulseOps, i ≠ .strbHi := by decide
    exact hne i (mem_pulseOps_of_mem_pulses hi)
  have ht : State.CapturesFrom s t := hb.rstTaken.of_exec (i := .flip) hsb (by decide) he'
  refine ⟨t, ?_, hrt, hst, ?_, ?_, ?_, ht⟩
  · exact .cons hs hr he (hex.append (.cons hsb hr' he' (.nil t)))
  · rw [exec_flip_next he']
    simp [Phase.flip, hpb]
  · rw [exec_flip_next he']
    exact hjb
  · have hqt := hrt.sequenced.at (i := .strbHi) hst
    rw [hqt.wrIdx, if_pos ht.inCapture, ht.config, pixelsDoneAt, Config.sampleCount]

/-- Settles O36: the frame executes `FRAME_CAP`, and its `SAMPLE_COUNT` samples use the next answers in order. -/
theorem capturingFrameRun : Obligations.CapturingFrameRun := by
  unfold Obligations.CapturingFrameRun
  intro s vs rest hq hr hs hp hpend hlen
  obtain ⟨t, hex, hrt, hst, hpt, hjt, hwr, hcap⟩ :=
    State.Ready.executes_frameCap (n := 0) ⟨hq, by rwa [Nat.zero_add]⟩ hs hp
  have hrun := hex.run
  have hops := hex.opsRun
  rw [frameCapOps_length] at hrun hops
  have hvs : (List.range t.wrIdx).map s.env.adcAnswerAt = vs := by
    rw [hwr, ← hlen, Environment.map_adcAnswerAt_of_pending hpend]
  have hseq := hrt.sequenced.at hst
  refine ⟨hops, t, hrun, hst, hpt, hjt, hwr, hseq.strobe, hseq.clock, hcap.expStart, hcap.time, hcap.tickAdvances,
    ?_, hcap.config, run_rst hrun, ?_, ?_, ?_⟩
  · rw [hcap.pending, hpend, hwr, ← hlen, List.drop_left]
  · rw [hcap.fb, ← hvs, List.map_map, hwr]
    rfl
  · rw [hcap.pinsTraced.framePins_whole (.inr ⟨hst, hcap.trace_ne_nil hst⟩), hcap.config,
      Nat.sub_add_cancel s.config.pixels_pos]
  · rw [hcap.sampling, hvs]

/-- Settles O60: answers in range fit an entry, and after the frame the answers that are left are those after the
`SAMPLE_COUNT` it used. -/
theorem answersInRangeAreStoredWhole : Obligations.AnswersInRangeAreStoredWhole := by
  unfold Obligations.AnswersInRangeAreStoredWhole
  intro s n hq hr hs hp hrange
  obtain ⟨t, hex, hrt, hst, hpt, hjt, hwr, hcap⟩ :=
    State.Ready.executes_frameCap (n := 0) ⟨hq, by rwa [Nat.zero_add]⟩ hs hp
  have hrun := hex.run
  rw [frameCapOps_length] at hrun
  have hle : ∀ k < s.config.sampleCount, s.env.adcAnswerAt k ≤ s.config.adcMax := fun k hk =>
    hrange k (Nat.lt_add_right n hk)
  have hfb : t.fb = (List.range s.config.sampleCount).map s.env.adcAnswerAt ++ s.fb.drop s.config.sampleCount := by
    rw [hcap.fb, hwr]
    congr 1
    refine List.map_congr_left fun k hk => Nat.mod_eq_of_lt ?_
    exact (hle k (List.mem_range.1 hk)).trans_lt s.config.adcMax_lt
  refine ⟨t, hrun, hst, hfb, fun v hv => ?_, fun k hk => ?_, run_rst hrun⟩
  · rw [hfb, List.take_left' (by simp)] at hv
    obtain ⟨k, hk, rfl⟩ := List.mem_map.1 hv
    exact hle k (List.mem_range.1 hk)
  · rw [hcap.answers, hwr, hcap.config]
    exact hrange _ (Nat.add_lt_add_left hk _)

/-! ### An AwaitingExposure frame up to its wait -/

/-- `s` stands in the scan of the AwaitingExposure frame that began in `s₀`, or at its `REND`: the counter's next read
is the mark once it is taken, and the buffer and the converter are as they were. -/
structure State.AwaitsFrom (s₀ s : State) : Prop where
  samplesTraced : s.SamplesTraced
  scanTicks : s.ScanTicks
  phase : s.phase = .awaitingExposure
  config : s.config = s₀.config
  fb : s.fb = s₀.fb
  adcAnswers : s.env.adcAnswers = s₀.env.adcAnswers
  unmarked : ¬ s.Marked → s.tickTime = s₀.tickTime ∧ s.env.tickAdvances = s₀.env.tickAdvances
  marked : s.Marked → s.expStart = s₀.tickNow ∧ s.env.time = s₀.tickTime ∧ s.env.markTime = s₀.tickTime ∧
    s.env.tickAdvances = s₀.env.tickAdvances.tail

theorem State.AwaitsFrom.rstTaken (h : State.AwaitsFrom s₀ s) : State.AwaitsFrom s₀ s.rstTaken :=
  { h with samplesTraced := h.samplesTraced.rstTaken }

/-- Where no tick is read the time of the next read stays. -/
theorem exec_tickTime (he : exec i s = .next t) (hm : i = .xmark → s.markDue = false) (hw : i ≠ .xwait) :
    t.tickTime = s.tickTime := by
  have fr := exec_frame he
  simp only [State.tickTime, State.tickAdvance, fr.time hm hw, fr.tickAdvances hm hw, fr.tickDraws hm hw]

theorem State.AwaitsFrom.of_strbHi (hq : s.Sequenced) (hs : s.isAt .strbHi) (hp : s.phase = .awaitingExposure)
    (he : exec .strbHi s = .next t) : State.AwaitsFrom s t := by
  have fr := exec_frame he
  have hm : ¬ t.Marked := fun hm => by
    rcases (exec_marked_iff he hs (by decide)).1 hm with hm | ⟨hx, -⟩
    · exact State.not_marked_of_isAt_strbHi hs hm
    · exact absurd hx (by decide)
  exact ⟨.of_strbHi hq hs he, exec_strbHi_scanTicks he hs, (exec_phase_of_ne_flip he (by decide)).trans hp, fr.config,
    fr.fb (by simp), fr.adcAnswers (by simp),
    fun _ => ⟨exec_tickTime he (by simp) (by decide), fr.tickAdvances (by simp) (by decide)⟩, fun h => absurd h hm⟩

theorem State.AwaitsFrom.of_exec (h : State.AwaitsFrom s₀ s) (hs : s.isAt i) (hi : i ∈ pulseOps)
    (he : exec i s = .next t) : State.AwaitsFrom s₀ t := by
  have hne : ∀ i ∈ pulseOps, i ≠ .strbHi ∧ i ≠ .xwait ∧ i ≠ .flip := by decide
  obtain ⟨hsh, hw, hf⟩ := hne i hi
  have fr := exec_frame he
  have hsample : i = .samp → s.sampleDue = false := fun _ => by simp [State.sampleDue, h.phase]
  have hmarked := exec_marked_iff he hs hf
  refine ⟨h.samplesTraced.of_exec hs he, h.scanTicks.of_exec hs he hsh hw hf,
    (exec_phase_of_ne_flip he hf).trans h.phase, fr.config.trans h.config, (fr.fb hsample).trans h.fb,
    (fr.adcAnswers hsample).trans h.adcAnswers, fun hm => ?_, fun hm => ?_⟩
  · obtain ⟨hm', hdue⟩ := not_or.1 (mt hmarked.2 hm)
    have hnot : i = .xmark → s.markDue = false := fun hx => by simpa [hx] using hdue
    obtain ⟨htime, hadv⟩ := h.unmarked hm'
    exact ⟨(exec_tickTime he hnot hw).trans htime, (fr.tickAdvances hnot hw).trans hadv⟩
  · by_cases hdue : i = .xmark ∧ s.markDue = true
    · obtain ⟨rfl, hd⟩ := hdue
      obtain ⟨htime, hadv⟩ := h.unmarked (State.not_marked_of_markDue hs hd)
      have hnow : s.tickNow = s₀.tickNow := by rw [State.tickNow, htime, h.config, State.tickNow]
      rcases exec_xmark_next he with ⟨-, -, rfl⟩ | ⟨hn, -⟩
      · exact ⟨hnow, htime, htime, congrArg List.tail hadv⟩
      · exact absurd (s.markDue_iff.1 hd) hn
    · have hnot : i = .xmark → s.markDue = false := fun hx => by simpa [hx] using hdue
      obtain ⟨hexp, htime, hmt, hadv⟩ := h.marked ((hmarked.1 hm).resolve_right hdue)
      exact ⟨(fr.expStart hnot).trans hexp, (fr.time hnot hw).trans htime, (fr.markTime hnot).trans hmt,
        (fr.tickAdvances hnot hw).trans hadv⟩

theorem scanRendOps_length (pixels : Nat) : (scanOps pixels ++ [Instr.rend]).length = 5 * pixels + 2 := by
  rw [scanOps, List.length_append, List.length_cons, pulses_length, List.length_singleton]

/-- An AwaitingExposure frame without a reset executes its scan and comes to `REND`, which leads to the wait. -/
theorem State.Ready.executes_toWait (h : s.Ready (n + (5 * s.config.pixels + 2))) (hs : s.isAt .strbHi)
    (hp : s.phase = .awaitingExposure) :
    ∃ u, Executes (scanOps s.config.pixels ++ [.rend]) s (u.emitRender.goTo .xwait) ∧
      (u.emitRender.goTo .xwait).Ready n ∧ u.isAt .rend ∧ u.j = s.config.pixels - 1 ∧ State.AwaitsFrom s u := by
  have hq := h.sequenced
  have hready : s.Ready (n + 1 + 5 * s.config.pixels + 1) := by
    rwa [show n + 1 + 5 * s.config.pixels + 1 = n + (5 * s.config.pixels + 2) by omega]
  obtain ⟨a, b, hr, he, hex, hrb, hsb, hjb, -, -⟩ := hready.executes_scan hs
  rw [hp] at hsb
  obtain ⟨t, hr', he', hrt, -⟩ := hrb.exec_next (i := .rend) hsb
  have hb : State.AwaitsFrom s b := by
    have ha : State.AwaitsFrom s a := { State.AwaitsFrom.of_strbHi hq.rstTaken hs hp he with }
    exact hex.keeps ha (fun _ => State.AwaitsFrom.rstTaken) fun i hi x y hx hsx =>
      hx.of_exec hsx (mem_pulseOps_of_mem_pulses hi)
  cases exec_rend_next he'
  exact ⟨b.rstTaken, .cons hs hr he (hex.append (.cons hsb hr' he' (.nil _))), hrt, hsb, hjb, hb.rstTaken⟩

/-- Settles O37: at `REND` the mark has been taken, and `REND` sends the buffer as it stood. -/
theorem awaitingFrameRunsToTheWait : Obligations.AwaitingFrameRunsToTheWait := by
  unfold Obligations.AwaitingFrameRunsToTheWait
  intro s hq hr hs hp
  obtain ⟨u, hex, hrt, hsu, hju, hu⟩ :=
    State.Ready.executes_toWait (n := 0) ⟨hq, by rwa [Nat.zero_add]⟩ hs hp
  have hrun := hex.run
  have hops := hex.opsRun
  rw [scanRendOps_length] at hrun hops
  have hqu := hu.samplesTraced.sequenced.at hsu
  have hqt := hrt.sequenced.at (i := .xwait) rfl
  have hc : u.inCapture = false := by rw [State.inCapture_of_ne hsu (by decide), hu.phase]; rfl
  have hm : u.Marked := hqu.marked_of_tail (by decide) hu.phase
  obtain ⟨hexp, htime, hmt, hadv⟩ := hu.marked hm
  have hend : exec .rend u = .next (u.emitRender.goTo .xwait) := exec_rend u
  refine ⟨hops, _, hrun, rfl, hu.phase, hju, ?_, hqt.strobe, hqt.clock, hu.fb, hexp, htime, hmt, hadv, hu.adcAnswers,
    hu.config, run_rst hrun, ?_, ?_, ?_⟩
  · rw [State.goTo_wrIdx, State.emitRender_wrIdx, hqu.wrIdx, hc]
    rfl
  · simp [hu.fb]
  · rw [(exec_noSample hend (by decide) (by simp)).1, hu.samplesTraced.idle hc]
  · rw [exec_frameTicks hend (by decide), hu.scanTicks.1 hm, hexp]
    rfl

/-! ### Two frames -/

theorem count_strbHi_scanOps (pixels : Nat) : (scanOps pixels).count .strbHi = 1 := by
  rw [scanOps, List.count_cons_self, count_pulses_eq_zero _ (by decide)]

theorem count_rend_scanOps (pixels : Nat) : (scanOps pixels).count .rend = 0 := by
  rw [scanOps, List.count_cons_of_ne (by decide), count_pulses_eq_zero _ (by decide)]

/-- Settles O38: the AwaitingExposure frame renders the buffer that the Capturing frame before it left. -/
theorem renderShowsThePrecedingCapture : Obligations.RenderShowsThePrecedingCapture := by
  unfold Obligations.RenderShowsThePrecedingCapture
  intro s vs rest hq hr hs hp hpend hlen
  have hready : s.Ready (0 + (5 * s.config.pixels + 2) + (5 * s.config.pixels + 2)) :=
    ⟨hq, noResetDuring_mono hr (by omega)⟩
  obtain ⟨t, hex, hrt, hst, hpt, -, hwr, hcap⟩ := hready.executes_frameCap hs hp
  rw [← hcap.config] at hrt
  obtain ⟨u, hex', -, -, -, hu⟩ := hrt.executes_toWait hst hpt
  rw [hcap.config] at hex'
  have hall := hex.append hex'
  have hrun := hall.run
  rw [List.length_append, frameCapOps_length, scanRendOps_length,
    show 5 * s.config.pixels + 2 + (5 * s.config.pixels + 2) = 10 * s.config.pixels + 4 by omega] at hrun
  have hvs : (List.range t.wrIdx).map s.env.adcAnswerAt = vs := by
    rw [hwr, ← hlen, Environment.map_adcAnswerAt_of_pending hpend]
  refine ⟨_, hrun, rfl, ?_, ?_, ?_⟩
  · rw [← hwr, ← hvs, List.map_map]
    simp [hu.fb, hcap.fb, Function.comp_def]
  · rw [hall.rendersSent]
    simp [frameCapOps, tailCapOps, count_rend_scanOps]
  · rw [hall.framesBegun]
    simp [frameCapOps, tailCapOps, count_strbHi_scanOps]

end Sys2Proof.Machine
end

section
/-! PROOFS. The exposure wait (R113, R114, R173, R204): the wait goes on while the reads miss the window and ends at the
first one in it, and a counter polled often enough comes into the window. -/

namespace Sys2Proof.Machine

variable {s t u : State} {i : Instr} {n : Nat}

/-! ### The coming tick reads -/

/-- The unwrapped time after the next `n` tick reads. -/
def Environment.timeAfter (e : Environment) : Nat → Nat
  | 0 => e.time
  | n + 1 => e.tickTimeAt n

theorem Environment.timeAfter_succ (e : Environment) (n : Nat) :
    e.timeAfter (n + 1) = e.timeAfter n + e.tickAdvanceAt n := by
  cases n <;> rfl

theorem Environment.time_le_timeAfter (e : Environment) (n : Nat) : e.time ≤ e.timeAfter n := by
  induction n with
  | zero => exact le_rfl
  | succ n ih => exact ih.trans (e.timeAfter_succ n ▸ Nat.le_add_right ..)

theorem Environment.tickAdvanceAt_of_pending {e : Environment} {ds rest : List Nat} (h : e.tickAdvances = ds ++ rest)
    (hn : n < ds.length) : e.tickAdvanceAt n = ds[n] := by
  simp [Environment.tickAdvanceAt, answerAt, h, List.getElem?_append_left hn, List.getElem?_eq_getElem hn]

/-- While the answers are pending, the time after `n` reads is the sum of the first `n` advances. -/
theorem Environment.timeAfter_of_pending {e : Environment} {ds rest : List Nat} (h : e.tickAdvances = ds ++ rest)
    (hn : n ≤ ds.length) : e.timeAfter n = e.time + (ds.take n).sum := by
  induction n with
  | zero => rfl
  | succ n ih =>
    rw [e.timeAfter_succ, ih (Nat.le_of_succ_le hn), Environment.tickAdvanceAt_of_pending h hn,
      List.take_succ_eq_append_getElem hn, List.sum_append, List.sum_singleton, Nat.add_assoc]

/-! ### Executions of `XWAIT` -/

/-- The `k`-th coming tick read lies in the window of the comparison of R113. -/
def State.WindowAt (s : State) (k : Nat) : Prop :=
  s.config.expTicks ≤ s.config.tsub (s.env.tickTimeAt k % s.config.tickMod) s.expStart

/-- `t` is `s` after `n` executions of `XWAIT`, up to `STEP`, which the last of them sets, and the levels of `rst`. -/
structure State.WaitedFrom (s : State) (n : Nat) (t : State) : Prop where
  phase : t.phase = s.phase
  j : t.j = s.j
  strobe : t.strobe = s.strobe
  clock : t.clock = s.clock
  expStart : t.expStart = s.expStart
  wrIdx : t.wrIdx = s.wrIdx
  fb : t.fb = s.fb
  config : t.config = s.config
  markTime : t.env.markTime = s.env.markTime
  time : t.env.time = s.env.timeAfter n
  reads : ∀ k, t.env.tickTimeAt k = s.env.tickTimeAt (n + k)
  pending : t.env.tickAdvances = s.env.tickAdvances.drop n
  trace : t.trace = s.trace ++ (List.range n).map fun k => .tickRead (s.env.tickTimeAt k % s.config.tickMod)

theorem State.WaitedFrom.zero (s : State) : s.WaitedFrom 0 s := by
  constructor <;> simp [Environment.timeAfter]

theorem State.WaitedFrom.rstTaken (h : s.WaitedFrom n t) : s.WaitedFrom n t.rstTaken :=
  { h with reads := fun k => (t.rstTaken_tickTimeAt k).trans (h.reads k) }

/-- The next read is the first of those that were left. -/
theorem State.WaitedFrom.tickTime (h : s.WaitedFrom n t) : t.tickTime = s.env.tickTimeAt n := by
  rw [t.tickTime_eq_tickTimeAt_zero, h.reads, Nat.add_zero]

theorem State.WaitedFrom.tickNow (h : s.WaitedFrom n t) : t.tickNow = s.env.tickTimeAt n % s.config.tickMod := by
  rw [State.tickNow, h.tickTime, h.config]

theorem State.WaitedFrom.succ (h : s.WaitedFrom n t) (i : Instr) : s.WaitedFrom (n + 1) (t.tickRead.goTo i) :=
  { h with
    time := h.tickTime
    reads := fun k => by
      rw [State.goTo_env, t.tickRead_tickTimeAt, h.reads, Nat.add_assoc, Nat.add_comm 1 k]
    pending := by
      rw [State.goTo_env, State.tickRead_env_tickAdvances, h.pending, List.tail_drop]
    trace := by
      rw [State.goTo_trace, State.tickRead_trace, h.trace, h.tickNow, List.range_succ, List.map_append,
        List.append_assoc]
      rfl }

/-- What is left of the premise `NoResetDuring` after the first part of a run. -/
theorem noResetDuring_of_run {m : Nat} (h : s.noResetDuring (n + m) = true) (hrun : run n s = .next t) :
    t.noResetDuring m = true := by
  simp only [State.noResetDuring, List.all_eq_true] at h ⊢
  intro level hl
  rw [run_rst hrun, List.take_drop] at hl
  exact h level (List.mem_of_mem_drop hl)

/-- One execution of `XWAIT` after `n` others goes where its own read says. -/
theorem State.WaitedFrom.executes_xwait (h : s.WaitedFrom n t) (ht : t.isAt .xwait) (hr : t.rstAsserted = false) :
    ∃ u, Executes [.xwait] t u ∧ s.WaitedFrom (n + 1) u ∧ (s.WindowAt n → u.isAt .flip) ∧
      (¬ s.WindowAt n → u.isAt .xwait) := by
  have hw : t.config.expTicks ≤ t.config.tsub t.rstTaken.tickNow t.expStart ↔ s.WindowAt n := by
    rw [h.rstTaken.tickNow, h.expStart, h.config, State.WindowAt]
  refine ⟨_, .cons ht hr (exec_xwait t.rstTaken) (.nil _), h.rstTaken.succ _, fun hin => ?_, fun hout => ?_⟩
  · exact congrArg encode (if_pos (hw.2 hin))
  · exact congrArg encode (if_neg (mt hw.1 hout))

theorem Executes.run_replicate (h : Executes (List.replicate n i) s t) : Machine.run n s = .next t := by
  simpa using h.run

/-- While the reads miss the window the machine stays in `XWAIT` (R173). -/
theorem executes_wait (hs : s.isAt .xwait) (hr : s.noResetDuring n = true) (hmiss : ∀ k, k < n → ¬ s.WindowAt k) :
    ∃ t, Executes (List.replicate n .xwait) s t ∧ t.isAt .xwait ∧ s.WaitedFrom n t := by
  induction n with
  | zero => exact ⟨s, .nil s, hs, .zero s⟩
  | succ n ih =>
    obtain ⟨u, hex, hu, hwait⟩ := ih (noResetDuring_mono hr (Nat.le_succ n)) fun k hk => hmiss k (Nat.lt_succ_of_lt hk)
    have hru := ((noResetDuring_succ u 0).1 (noResetDuring_of_run hr hex.run_replicate)).1
    obtain ⟨t, hex', hwait', -, hout⟩ := hwait.executes_xwait hu hru
    exact ⟨t, List.replicate_succ' (n := n) ▸ hex.append hex', hout (hmiss n (Nat.lt_succ_self n)), hwait'⟩

/-- The first read in the window ends the wait (R114). -/
theorem executes_wait_end (hs : s.isAt .xwait) (hr : s.noResetDuring (n + 1) = true)
    (hmiss : ∀ k, k < n → ¬ s.WindowAt k) (hin : s.WindowAt n) :
    ∃ t, Executes (List.replicate (n + 1) .xwait) s t ∧ t.isAt .flip ∧ s.WaitedFrom (n + 1) t := by
  obtain ⟨u, hex, hu, hwait⟩ := executes_wait hs (noResetDuring_mono hr (Nat.le_succ n)) hmiss
  have hru := ((noResetDuring_succ u 0).1 (noResetDuring_of_run hr hex.run_replicate)).1
  obtain ⟨t, hex', hwait', hflip, -⟩ := hwait.executes_xwait hu hru
  exact ⟨t, List.replicate_succ' (n := n) ▸ hex.append hex', hflip hin, hwait'⟩

theorem exists_first {p : Nat → Prop} (h : ∃ k, p k) : ∃ k, p k ∧ ∀ m, m < k → ¬ p m := by
  classical exact ⟨Nat.find h, Nat.find_spec h, fun _ => Nat.find_min h⟩

/-! ### Pending answers (R114, R173) -/

/-- The window of a pending read, by the sum of the advances up to it. -/
theorem State.windowAt_of_pending {ds rest : List Nat} (h : s.env.tickAdvances = ds ++ rest) (hn : n < ds.length) :
    s.WindowAt n ↔ s.config.expTicks ≤
      s.config.tsub ((s.env.time + (ds.take (n + 1)).sum) % s.config.tickMod) s.expStart := by
  rw [State.WindowAt, ← Environment.timeAfter_of_pending h hn, Environment.timeAfter]

/-- Settles O39: the first read in the window is the last of the given answers. -/
theorem waitEndsAtTheFirstAnswerInTheWindow : Obligations.WaitEndsAtTheFirstAnswerInTheWindow := by
  unfold Obligations.WaitEndsAtTheFirstAnswerInTheWindow
  intro s ds d rest hs hr hpend hmiss hin
  have hpend' : s.env.tickAdvances = (ds ++ [d]) ++ rest := by rw [hpend, List.append_assoc, List.singleton_append]
  have hlen : ds.length + 1 = (ds ++ [d]).length := by simp
  have hsum : ((ds ++ [d]).take (ds.length + 1)).sum = ds.sum + d := by
    rw [hlen, List.take_length, List.sum_append, List.sum_singleton]
  have hread : ∀ k, k < ds.length + 1 → s.env.tickTimeAt k = s.env.time + ((ds ++ [d]).take (k + 1)).sum :=
    fun k hk => Environment.timeAfter_of_pending (n := k + 1) hpend' (hlen ▸ hk)
  have hend : s.WindowAt ds.length := by
    rw [State.WindowAt, hread _ (Nat.lt_succ_self _), hsum, ← Nat.add_assoc]
    exact hin
  obtain ⟨t, hex, hflip, h⟩ := executes_wait_end hs hr
    (fun k hk => mt (State.windowAt_of_pending hpend hk).1 (Nat.not_le_of_lt (hmiss k hk))) hend
  have hops := hex.opsRun
  rw [List.length_replicate] at hops
  refine ⟨hops, t, hex.run_replicate, hflip, h.phase, h.j, h.strobe, h.clock, h.expStart, h.wrIdx, h.fb, h.config, ?_,
    ?_, h.markTime, ?_⟩
  · rw [h.time, Environment.timeAfter, hread _ (Nat.lt_succ_self _), hsum, Nat.add_assoc]
  · rw [h.pending, hpend', hlen, List.drop_left]
  · rw [h.trace]
    congr 1
    exact List.map_congr_left fun k hk => by rw [hread k (List.mem_range.1 hk)]

/-- Settles O40: no read in the window, so the machine stays; a counter that stands still always reads the same. -/
theorem waitGoesOnWhileAnswersMissTheWindow : Obligations.WaitGoesOnWhileAnswersMissTheWindow := by
  unfold Obligations.WaitGoesOnWhileAnswersMissTheWindow
  constructor
  · intro s ds rest hs hr hpend hmiss
    obtain ⟨t, hex, ht, h⟩ := executes_wait hs hr fun k hk =>
      mt (State.windowAt_of_pending hpend hk).1 (Nat.not_le_of_lt (hmiss k hk))
    refine ⟨t, hex.run_replicate, ht, h.phase, h.j, h.strobe, h.clock, h.expStart, h.wrIdx, h.fb, ?_⟩
    rw [h.pending, hpend, List.drop_left]
  · intro s n hs hr hpend hmiss
    have hpend' : s.env.tickAdvances = List.replicate n 0 ++ [] := by rw [hpend, List.append_nil]
    have hstill : ∀ k, k ≤ n → s.env.timeAfter k = s.env.time := fun k hk => by
      rw [Environment.timeAfter_of_pending hpend' (by simpa using hk)]
      simp
    obtain ⟨t, hex, ht, h⟩ := executes_wait hs hr fun k hk hin => by
      rw [State.WindowAt, ← Environment.timeAfter, hstill (k + 1) hk] at hin
      exact Nat.not_le_of_lt hmiss hin
    exact ⟨t, hex.run_replicate, ht, h.time.trans (hstill n le_rfl)⟩

/-! ### Polled often enough (R114, R204) -/

theorem exists_crossing (f : Nat → Nat) {b : Nat} (h0 : f 0 < b) (hn : b ≤ f n) :
    ∃ k < n, f k < b ∧ b ≤ f (k + 1) := by
  induction n with
  | zero => omega
  | succ n ih =>
    by_cases hb : f n < b
    · exact ⟨n, Nat.lt_succ_self n, hb, hn⟩
    · obtain ⟨k, hk, hcross⟩ := ih (Nat.le_of_not_lt hb)
      exact ⟨k, Nat.lt_succ_of_lt hk, hcross⟩

/-- A sequence that covers a lap of `M` in steps of at most `M - E` comes into the last `M - E` of some lap: it cannot
step over them. -/
theorem exists_mod_ge {M E : Nat} (hE : E < M) (f : Nat → Nat) (hstep : ∀ k < n, f (k + 1) - f k ≤ M - E)
    (hlap : f 0 + M ≤ f n) : ∃ k < n, E ≤ f (k + 1) % M := by
  obtain ⟨q, hlo, hhi⟩ : ∃ q, f 0 < M * q + E ∧ M * q + E ≤ f 0 + M := by
    have hdiv := Nat.div_add_mod (f 0) M
    have hmod := Nat.mod_lt (f 0) (Nat.zero_lt_of_lt hE)
    by_cases hr : f 0 % M < E
    · exact ⟨f 0 / M, by omega, by omega⟩
    · exact ⟨f 0 / M + 1, by rw [Nat.mul_succ]; omega, by rw [Nat.mul_succ]; omega⟩
  obtain ⟨k, hk, hbelow, habove⟩ := exists_crossing f hlo (hhi.trans hlap)
  refine ⟨k, hk, ?_⟩
  have hs := hstep k hk
  obtain ⟨r, hr⟩ := Nat.exists_eq_add_of_le (Nat.le_of_add_right_le habove)
  rw [hr, Nat.mul_add_mod, Nat.mod_eq_of_lt (by omega)]
  omega

/-- The tick difference by the unwrapped time. -/
theorem tsub_mod_left (c : Config) {a b : Nat} (hb : b < c.tickMod) :
    c.tsub (a % c.tickMod) b = (a + c.tickMod - b) % c.tickMod := by
  have hdiv := Nat.div_add_mod a c.tickMod
  rw [Config.tsub, show a + c.tickMod - b = c.tickMod * (a / c.tickMod) + (a % c.tickMod + c.tickMod - b) by omega,
    Nat.mul_add_mod]

/-- Settles O41: the pending reads cover a lap in steps that cannot miss the window, and the first one in it ends the
wait. -/
theorem waitEndsWhenPolledOftenEnough : Obligations.WaitEndsWhenPolledOftenEnough := by
  unfold Obligations.WaitEndsWhenPolledOftenEnough
  intro s hq hs hr hstep hlap
  have hpend : s.env.tickAdvances = s.env.tickAdvances ++ [] := (List.append_nil _).symm
  have hexp := hq.expStart_range
  obtain ⟨k, hk, hin⟩ : ∃ k < s.env.tickAdvances.length, s.WindowAt k := by
    simp only [State.WindowAt, tsub_mod_left _ hexp]
    refine exists_mod_ge s.config.expTicks_lt (fun m => s.env.timeAfter m + s.config.tickMod - s.expStart) ?_ ?_
    · intro m hm
      have hadv := Environment.tickAdvanceAt_of_pending hpend hm
      have hle := hstep _ (List.getElem_mem hm)
      have hnext := s.env.timeAfter_succ m
      omega
    · have hall := Environment.timeAfter_of_pending hpend (le_refl s.env.tickAdvances.length)
      rw [List.take_length] at hall
      have hzero : s.env.timeAfter 0 = s.env.time := rfl
      omega
  obtain ⟨m, hm, hfirst⟩ := exists_first ⟨k, hin⟩
  have hmk : m ≤ k := Nat.le_of_not_lt fun hlt => hfirst k hlt hin
  have hlen : m + 1 ≤ s.env.tickAdvances.length := Nat.lt_of_le_of_lt hmk hk
  obtain ⟨t, hex, hflip, h⟩ := executes_wait_end hs (noResetDuring_mono hr hlen) hfirst hm
  exact ⟨m + 1, t, hlen, hex.run_replicate, hflip, h.phase.trans (hq.wait_phase (.inr hs))⟩

/-! ### Pending and free answers alike (R114, R208) -/

theorem State.tickMonotone_all (s : State) : s.tickMonotone :=
  ⟨s.env.time_le_timeAfter 1, fun _ => Nat.le_add_right ..⟩

/-- In the wait of a timed state the window is that of the unwrapped time since the mark (R117). -/
theorem State.ExposureTimed.windowAt_iff (h : s.ExposureTimed) (hs : s.isAt .xwait) (k : Nat) :
    s.WindowAt k ↔ s.config.expTicks ≤ (s.env.tickTimeAt k - s.env.markTime) % s.config.tickMod := by
  have hq := h.sequenced.at hs
  obtain ⟨hle, hmark⟩ := h.mark_held (hq.marked_of_tail (by decide) (hq.wait_phase (by decide)))
  have hread : s.env.markTime ≤ s.env.tickTimeAt k := hle.trans (s.env.time_le_timeAfter (k + 1))
  rw [State.WindowAt, hmark, Config.tsub_mod_mod _ s.config.tickMod_pos hread]

/-- `WaitSampled` follows from `TickProgress` where successive reads are close enough (R114). -/
theorem waitSampled_of_tickProgress {c : Config} (hc : c.firstViolated = none) {t0 : Nat} {times : Nat → Nat}
    (hprog : TickProgress times) (hstep : ∀ k, times (k + 1) - times k ≤ c.tickMod - c.expTicks) :
    WaitSampled c t0 times := by
  obtain ⟨n, hn⟩ := hprog (times 0 - t0 + c.tickMod + t0)
  have hlt : c.expTicks < c.tickMod := (ValidConfig.mk c hc).expTicks_lt
  obtain ⟨k, -, hk⟩ := exists_mod_ge (n := n) hlt (fun k => times k - t0)
    (fun k _ => by have := hstep k; omega) (by omega)
  exact ⟨k + 1, hk⟩

/-- With no reset pending the wait ends exactly when some read falls in the window. -/
theorem exists_window_iff_run_flip (hs : s.isAt .xwait) (hr : s.noResetPending = true) :
    (∃ k, s.WindowAt k) ↔ ∃ n t, run n s = .next t ∧ t.isAt .flip := by
  have hr' := (noResetPending_iff s).1 hr
  constructor
  · intro h
    obtain ⟨k, hk, hfirst⟩ := exists_first h
    obtain ⟨t, hex, hflip, -⟩ := executes_wait_end hs (hr' _) hfirst hk
    exact ⟨k + 1, t, hex.run_replicate, hflip⟩
  · rintro ⟨n, t, hrun, hflip⟩
    by_contra hnone
    obtain ⟨u, hex, hu, -⟩ := executes_wait hs (hr' n) fun k _ hk => hnone ⟨k, hk⟩
    cases hrun.symm.trans hex.run_replicate
    exact absurd ((State.isAt_iff_of_isAt hu _).1 hflip) (by decide)

/-- Settles O59: the wait ends at the first read in the window and not before, and with reads close enough there is
one. -/
theorem waitEndsExactlyWhenSampled : Obligations.WaitEndsExactlyWhenSampled := by
  unfold Obligations.WaitEndsExactlyWhenSampled
  refine ⟨State.tickMonotone_all, fun s h hs hr => ?_, fun s n h hs hr hmiss => ⟨?_, fun hr' hin => ?_⟩,
    fun c t0 times hc hprog hstep => waitSampled_of_tickProgress hc hprog hstep⟩
  · rw [← exists_window_iff_run_flip hs hr]
    exact exists_congr fun k => (h.windowAt_iff hs k).symm
  · obtain ⟨t, hex, ht, -⟩ := executes_wait hs hr fun k hk hin =>
      Nat.not_le_of_lt (hmiss k hk) ((h.windowAt_iff hs k).1 hin)
    exact ⟨t, hex.run_replicate, ht⟩
  · obtain ⟨t, hex, hflip, hwait⟩ := executes_wait_end hs hr'
      (fun k hk hin => Nat.not_le_of_lt (hmiss k hk) ((h.windowAt_iff hs k).1 hin)) ((h.windowAt_iff hs n).2 hin)
    exact ⟨t, hex.run_replicate, hflip, hwait.phase.trans (h.sequenced.wait_phase (.inr hs)), hwait.time⟩

end Sys2Proof.Machine
end
